-- ==== Sys2Proof/Word.lean ====
section
/-!
DEFINITION. The words of the ports and the handles the block passes on (spec/00_scope.md R8, R10; spec/20_memory.md R51).
-/

namespace Sys2Proof

/-- A command, argument, event, response or output word: `WORD_W` = 32 bits (R8). -/
abbrev Word := BitVec 32

/-- A byte of a serialised port word (R53). -/
abbrev Byte := BitVec 8

/-- A frame or buffer handle: `HANDLE_W` = 32 bits (R8). The block only compares it with `noHandle` (R51). -/
abbrev Handle := BitVec 32

/-- The handle value 0, which means `none` (R8, R51). -/
abbrev noHandle : Handle := 0#32

end Sys2Proof
end

