-- ==== Sys2Proof/Config.lean ====
section
/-!
DEFINITION. What an implementation of the block fixes (spec/00_scope.md R8) and the free values (R9): constants without a body,
so that nothing can be proved about which value they give.
-/

namespace Sys2Proof

/-- Who runs interrupt dispatch: the OPEN parameter `IRQ_DISPATCH` (R8, decision D28). -/
inductive IrqDispatch where
  /-- The block dispatches by itself (the default). -/
  | autonomous
  /-- The host dispatches with IRQ_HANDLER. -/
  | hostCalled
  deriving DecidableEq, Repr

/-- `EVQ_DEPTH`: "1 or more, or unbounded" (92_eei_decisions.md, OPEN parameters). -/
inductive EvqDepth where
  /-- No bound (the default). -/
  | unbounded
  /-- A bound: one event, and this many more. -/
  | bounded (more : Nat)
  deriving DecidableEq, Repr

/-- How many events the queue can hold, `none` where there is no bound (R34). -/
def EvqDepth.capacity : EvqDepth → Option Nat
  | .unbounded => none
  | .bounded more => some (more + 1)

/-- The OPEN parameters of one block (R8). They are constant over a run. -/
structure Params where
  /-- `EVQ_DEPTH`: the depth of the event queue (R34). -/
  evqDepth : EvqDepth
  /-- `IRQ_DISPATCH`. -/
  irqDispatch : IrqDispatch
  /-- `CHANNEL_RESET`: the reset value of both channel registers (R41). -/
  channelReset : BitVec 8
  /-- `CCACFG_RESET`: the reset value of both CCA configuration registers (R41). -/
  ccaReset : BitVec 16
  deriving DecidableEq, Repr

/-- The parameters of `State.reset`: the spec's defaults for queue depth and dispatch (R8), and for the two reset values
that the spec leaves open the ones its own test programs take (95_test_vectors.md 0.3).
DESIGN CHOICE (log 7), unsafe: a fact about these two numbers is no fact about every block. -/
def Config.defaultParams : Params :=
  { evqDepth := .unbounded, irqDispatch := .autonomous, channelReset := 0x0B#8, ccaReset := 0x0000#16 }

/-- The pool's answer to the `n`-th free acquire: any handle or none (R9 `Acquire()`, U4). DESIGN CHOICE (log 4), safe. -/
opaque Config.poolAnswer : Nat → Handle

/-- The `n`-th free answer of `AbortableDraw()`: any bit (R9, U3). DESIGN CHOICE (log 4), safe. -/
opaque Config.abortAnswer : Nat → Bool

/-- The `n`-th free answer of `FrameAckRequested(frame)`: any bit (R9, U5). DESIGN CHOICE (logs 4 and 5), safe. -/
opaque Config.ackReqAnswer : Nat → Handle → Bool

end Sys2Proof
end

