-- ==== Sys2Proof/Syntax.lean ====
section
/-!
DEFINITION. The instructions: one constructor per row of spec/opcode_table.json, the 15 commands of
spec/30_encoding.md R75 and the 11 events of R79, with the operands of R73 and R80.
-/

namespace Sys2Proof

/-- A command of the host or an event of the radio or the arbiter. -/
inductive Instr where
  /-- SLEEP, format N (R120). -/
  | sleep
  /-- RECEIVE, format N (R121). -/
  | receive
  /-- TRANSMIT, format T (R122): `frame` is the argument word, `ccaRequired` bit 0 of the command word. -/
  | transmit (frame : Handle) (ccaRequired : Bool)
  /-- ENERGY_DETECTION, format A (R123): `timeUs` is the argument word, unsigned microseconds. -/
  | energyDetection (timeUs : Word)
  /-- CCA, format N (R124). -/
  | cca
  /-- CONTINUOUS_CARRIER, format N (R125). -/
  | continuousCarrier
  /-- CURRENT_STATE, format N (R140). -/
  | currentState
  /-- NOTIFY_BUFFER_FREE, format A (R141): `buffer` is the argument word. -/
  | notifyBufferFree (buffer : Handle)
  /-- CHANNEL_UPDATE, format N (R142). -/
  | channelUpdate
  /-- CCA_CFG_UPDATE, format N (R143). -/
  | ccaCfgUpdate
  /-- IRQ_HANDLER, format N (R144), legal only when the host owns dispatch (R78). -/
  | irqHandler
  /-- CS_ENTER, format N (R145). -/
  | csEnter
  /-- CS_EXIT, format N (R146). -/
  | csExit
  /-- CFG_SET_CHANNEL, format K8 (R147). -/
  | cfgSetChannel (channel : BitVec 8)
  /-- CFG_SET_CCA, format K16 (R148). -/
  | cfgSetCca (ccacfg : BitVec 16)
  /-- EV_RX_START, format E0 (R160). -/
  | evRxStart
  /-- EV_RX_ADDR_MATCH, format E1 (R161): the frame is addressed to this device. -/
  | evRxAddrMatch (addressed : Bool)
  /-- EV_RX_COMPLETE, format E1 (R162): the received frame requests an ACK. -/
  | evRxComplete (ackRequested : Bool)
  /-- EV_TX_COMPLETE, format E0 (R163). -/
  | evTxComplete
  /-- EV_ACK_RECEIVED, format E1 (R164): the ACK answers the frame in flight. -/
  | evAckReceived (matching : Bool)
  /-- EV_ACK_TIMEOUT, format E0 (R165). -/
  | evAckTimeout
  /-- EV_ED_COMPLETE, format E8 (R166). -/
  | evEdComplete (energy : BitVec 8)
  /-- EV_CCA_COMPLETE, format E1 (R167): the channel is busy. -/
  | evCcaComplete (busy : Bool)
  /-- EV_DISABLED, format E0 (R168), added by the spec (decision D9). -/
  | evDisabled
  /-- EV_TS_GRANT, format E0 (R180). -/
  | evTsGrant
  /-- EV_TS_REVOKE, format E0 (R181). -/
  | evTsRevoke
  deriving DecidableEq, Repr

/-- The words of the radio and the arbiter, as against the host's (R79 against R75). -/
def Instr.isEvent : Instr → Bool
  | .sleep | .receive | .transmit _ _ | .energyDetection _ | .cca | .continuousCarrier => false
  | .currentState | .notifyBufferFree _ | .channelUpdate | .ccaCfgUpdate | .irqHandler => false
  | .csEnter | .csExit | .cfgSetChannel _ | .cfgSetCca _ => false
  | .evRxStart | .evRxAddrMatch _ | .evRxComplete _ | .evTxComplete | .evAckReceived _ => true
  | .evAckTimeout | .evEdComplete _ | .evCcaComplete _ | .evDisabled => true
  | .evTsGrant | .evTsRevoke => true

end Sys2Proof
end

