-- ==== Sys2Proof/Decode.lean ====
section
/-!
DEFINITION. The decoders of spec/30_encoding.md (R71 to R81, R87, R88), total on every word and every byte string and rejecting by
name; after them the encoder, written from the match column of R75 and R79, and the text syntax (R89, R90).
-/

namespace Sys2Proof

/-- Why words are no instruction. Every reason but `truncated` is F_ILLEGAL_ENCODING on its port (R76, R78, R81). -/
inductive DecodeError where
  /-- The opcode is in no row of R75 (or R79 for the event port). -/
  | reservedOpcode
  /-- A bit that the format does not name is 1 (R71, R79). -/
  | reservedBits
  /-- IRQ_HANDLER while the block dispatches by itself (R78). -/
  | dispatchNotHost
  /-- The byte string ends inside an instruction (R54: a command and its argument are delivered together). -/
  | truncated
  deriving DecidableEq, Repr

/-! ## Fields -/

/-- `w[31:24]`: the opcode of a command or an event (R71, R79). -/
def opcodeOf (w : Word) : BitVec 8 := w.extractLsb' 24 8

/-- `w[23:n]`, widened: the reserved bits of a format whose fields are `w[n-1:0]` (R72, R80). -/
def reservedAbove (n : Nat) (w : Word) : BitVec 24 := (w.extractLsb' 0 24) >>> n

/-- `w[0]`: the one-bit operand of formats T and E1 (R72, R80). -/
def bitField (w : Word) : Bool := w.getLsbD 0

/-- `w[7:0]`: the operand of formats K8 and E8 (R72, R80). -/
def byteField (w : Word) : BitVec 8 := w.extractLsb' 0 8

/-- `w[15:0]`: the operand of format K16 (R72). -/
def halfField (w : Word) : BitVec 16 := w.extractLsb' 0 16

/-- The instruction `i`, if the bits from `n` up to 23 of its first word are 0 (R71). -/
def checkReserved (n : Nat) (w : Word) (i : Instr) : Except DecodeError Instr :=
  if reservedAbove n w = 0#24 then .ok i else .error .reservedBits

/-- A command with this opcode is followed by an argument word (R74). -/
def takesArgument (opc : BitVec 8) : Bool := opc == 0x03#8 || opc == 0x04#8 || opc == 0x09#8

/-! ## The two decoders -/

/-- `decode_cmd(w, a)` of R87: the command in word `w`, with the argument word `a` where R74 says there is one. -/
def decodeCmd (mode : IrqDispatch) (w a : Word) : Except DecodeError Instr :=
  if opcodeOf w = 0x01#8 then checkReserved 0 w .sleep
  else if opcodeOf w = 0x02#8 then checkReserved 0 w .receive
  else if opcodeOf w = 0x03#8 then checkReserved 1 w (.transmit a (bitField w))
  else if opcodeOf w = 0x04#8 then checkReserved 0 w (.energyDetection a)
  else if opcodeOf w = 0x05#8 then checkReserved 0 w .cca
  else if opcodeOf w = 0x06#8 then checkReserved 0 w .continuousCarrier
  else if opcodeOf w = 0x08#8 then checkReserved 0 w .currentState
  else if opcodeOf w = 0x09#8 then checkReserved 0 w (.notifyBufferFree a)
  else if opcodeOf w = 0x0A#8 then checkReserved 0 w .channelUpdate
  else if opcodeOf w = 0x0B#8 then checkReserved 0 w .ccaCfgUpdate
  else if opcodeOf w = 0x0C#8 then
    if mode = .hostCalled then checkReserved 0 w .irqHandler else .error .dispatchNotHost
  else if opcodeOf w = 0x0E#8 then checkReserved 0 w .csEnter
  else if opcodeOf w = 0x0F#8 then checkReserved 0 w .csExit
  else if opcodeOf w = 0x10#8 then checkReserved 8 w (.cfgSetChannel (byteField w))
  else if opcodeOf w = 0x11#8 then checkReserved 16 w (.cfgSetCca (halfField w))
  else .error .reservedOpcode

/-- The event in word `e` (R88, over the rows of R79). -/
def decodeEv (e : Word) : Except DecodeError Instr :=
  if opcodeOf e = 0x40#8 then checkReserved 0 e .evRxStart
  else if opcodeOf e = 0x41#8 then checkReserved 1 e (.evRxAddrMatch (bitField e))
  else if opcodeOf e = 0x42#8 then checkReserved 1 e (.evRxComplete (bitField e))
  else if opcodeOf e = 0x43#8 then checkReserved 0 e .evTxComplete
  else if opcodeOf e = 0x44#8 then checkReserved 1 e (.evAckReceived (bitField e))
  else if opcodeOf e = 0x45#8 then checkReserved 0 e .evAckTimeout
  else if opcodeOf e = 0x46#8 then checkReserved 8 e (.evEdComplete (byteField e))
  else if opcodeOf e = 0x47#8 then checkReserved 1 e (.evCcaComplete (bitField e))
  else if opcodeOf e = 0x48#8 then checkReserved 0 e .evDisabled
  else if opcodeOf e = 0x60#8 then checkReserved 0 e .evTsGrant
  else if opcodeOf e = 0x61#8 then checkReserved 0 e .evTsRevoke
  else .error .reservedOpcode

/-- The word is an event word (R79, R81). -/
def isEventWord (e : Word) : Bool :=
  match decodeEv e with
  | .ok _ => true
  | .error _ => false

/-! ## Words carried as bytes (R53: little-endian) -/

/-- A word as four bytes, least significant first (R53). -/
def wordBytes (w : Word) : List Byte :=
  [w.extractLsb' 0 8, w.extractLsb' 8 8, w.extractLsb' 16 8, w.extractLsb' 24 8]

/-- The word of four bytes, `b0` the least significant (R53). -/
def wordOfBytes (b0 b1 b2 b3 : Byte) : Word := b3 ++ b2 ++ b1 ++ b0

/-- The instruction at the head of a byte string, and the bytes after it. The opcode spaces of the two ports are disjoint
(R76, R81, decision D5), so one string may hold words of both. DESIGN CHOICE (log 12), safe: the block itself never sees bytes. -/
def decodeBytes (mode : IrqDispatch) : List Byte → Except DecodeError (Instr × List Byte)
  | b0 :: b1 :: b2 :: b3 :: rest =>
    let w := wordOfBytes b0 b1 b2 b3
    if takesArgument (opcodeOf w) then
      match rest with
      | c0 :: c1 :: c2 :: c3 :: rest' =>
        (decodeCmd mode w (wordOfBytes c0 c1 c2 c3)).map fun i => (i, rest')
      | _ => .error .truncated
    else
      match decodeCmd mode w 0#32 with
      | .error .reservedOpcode => (decodeEv w).map fun i => (i, rest)
      | r => r.map fun i => (i, rest)
  | _ => .error .truncated

/-- The instruction that the decoder reads from a row's `nbits` bits `w` of spec/opcode_table.json (bit 0 the least significant bit
of the first word), an argument word of zeros after them where the row gives it no bits. IRQ_HANDLER is a row, so the host is taken
to own dispatch (R78; log 15). -/
def decodeTableWord (nbits w : Nat) : Option Instr :=
  let bits := w % 2 ^ nbits
  match decodeBytes .hostCalled (wordBytes (BitVec.ofNat 32 bits) ++ wordBytes (BitVec.ofNat 32 (bits >>> 32))) with
  | .ok (i, _) => some i
  | .error _ => none

/-! ## The encoder -/

/-- The opcode of an instruction: the OPC column of R75 and the EOPC column of R79. -/
def Instr.opcode : Instr → BitVec 8
  | .sleep => 0x01#8
  | .receive => 0x02#8
  | .transmit _ _ => 0x03#8
  | .energyDetection _ => 0x04#8
  | .cca => 0x05#8
  | .continuousCarrier => 0x06#8
  | .currentState => 0x08#8
  | .notifyBufferFree _ => 0x09#8
  | .channelUpdate => 0x0A#8
  | .ccaCfgUpdate => 0x0B#8
  | .irqHandler => 0x0C#8
  | .csEnter => 0x0E#8
  | .csExit => 0x0F#8
  | .cfgSetChannel _ => 0x10#8
  | .cfgSetCca _ => 0x11#8
  | .evRxStart => 0x40#8
  | .evRxAddrMatch _ => 0x41#8
  | .evRxComplete _ => 0x42#8
  | .evTxComplete => 0x43#8
  | .evAckReceived _ => 0x44#8
  | .evAckTimeout => 0x45#8
  | .evEdComplete _ => 0x46#8
  | .evCcaComplete _ => 0x47#8
  | .evDisabled => 0x48#8
  | .evTsGrant => 0x60#8
  | .evTsRevoke => 0x61#8

/-- Bits [23:0] of the first word: the fields of R72 and R80, every other bit 0. -/
def Instr.payload : Instr → BitVec 24
  | .transmit _ c => (BitVec.ofBool c).setWidth 24
  | .cfgSetChannel ch => ch.setWidth 24
  | .cfgSetCca cfg => cfg.setWidth 24
  | .evRxAddrMatch f => (BitVec.ofBool f).setWidth 24
  | .evRxComplete f => (BitVec.ofBool f).setWidth 24
  | .evAckReceived f => (BitVec.ofBool f).setWidth 24
  | .evCcaComplete f => (BitVec.ofBool f).setWidth 24
  | .evEdComplete v => v.setWidth 24
  | .sleep | .receive | .energyDetection _ | .cca | .continuousCarrier => 0#24
  | .currentState | .notifyBufferFree _ | .channelUpdate | .ccaCfgUpdate | .irqHandler => 0#24
  | .csEnter | .csExit => 0#24
  | .evRxStart | .evTxComplete | .evAckTimeout | .evDisabled | .evTsGrant | .evTsRevoke => 0#24

/-- The argument word, for the formats T and A (R72). -/
def Instr.argument : Instr → Option Word
  | .transmit frame _ => some frame
  | .energyDetection timeUs => some timeUs
  | .notifyBufferFree buffer => some buffer
  | .sleep | .receive | .cca | .continuousCarrier => none
  | .currentState | .channelUpdate | .ccaCfgUpdate | .irqHandler | .csEnter | .csExit => none
  | .cfgSetChannel _ | .cfgSetCca _ => none
  | .evRxStart | .evRxAddrMatch _ | .evRxComplete _ | .evTxComplete | .evAckReceived _ => none
  | .evAckTimeout | .evEdComplete _ | .evCcaComplete _ | .evDisabled => none
  | .evTsGrant | .evTsRevoke => none

/-- The command or event word of an instruction (R71, R79). -/
def Instr.word (i : Instr) : Word := i.opcode ++ i.payload

/-- The words of an instruction: its command or event word, then its argument word if it has one (R72, R79). -/
def encode (i : Instr) : List Word := i.word :: i.argument.toList

/-- The words of an instruction as the bytes that carry them (R53). -/
def encodeBytes (i : Instr) : List Byte := (encode i).flatMap wordBytes

/-! ## The text syntax -/

/-- A one-bit operand in text (R89). -/
def bitText (b : Bool) : String := if b then "1" else "0"

/-- The text of an instruction (R89), numbers in decimal. -/
def Instr.text : Instr → String
  | .sleep => "sleep"
  | .receive => "receive"
  | .transmit frame c => "transmit " ++ toString frame.toNat ++ ", " ++ bitText c
  | .energyDetection t => "energy_detection " ++ toString t.toNat
  | .cca => "cca"
  | .continuousCarrier => "continuous_carrier"
  | .currentState => "current_state"
  | .notifyBufferFree b => "notify_buffer_free " ++ toString b.toNat
  | .channelUpdate => "channel_update"
  | .ccaCfgUpdate => "cca_cfg_update"
  | .irqHandler => "irq_handler"
  | .csEnter => "cs_enter"
  | .csExit => "cs_exit"
  | .cfgSetChannel ch => "cfg_set_channel " ++ toString ch.toNat
  | .cfgSetCca cfg => "cfg_set_cca " ++ toString cfg.toNat
  | .evRxStart => "ev rx_start"
  | .evRxAddrMatch f => "ev rx_address_match " ++ bitText f
  | .evRxComplete f => "ev rx_complete " ++ bitText f
  | .evTxComplete => "ev tx_complete"
  | .evAckReceived f => "ev ack_received " ++ bitText f
  | .evAckTimeout => "ev ack_timeout"
  | .evEdComplete v => "ev ed_complete " ++ toString v.toNat
  | .evCcaComplete f => "ev cca_complete " ++ bitText f
  | .evDisabled => "ev disabled"
  | .evTsGrant => "ev ts_grant"
  | .evTsRevoke => "ev ts_revoke"

/-- The pseudo-instruction `critical` of R90: the commands between CS_ENTER and CS_EXIT. -/
def critical (cs : List Instr) : List Instr := .csEnter :: (cs ++ [.csExit])

/-- The pseudo-instruction `req` of R90: one command in a critical section of its own. -/
def req (c : Instr) : List Instr := critical [c]

end Sys2Proof
end

