-- ==== Sys2Proof/Machine/State.lean ====
section
/-!
DEFINITION. The state record S of spec/10_state.md (R22 to R37) as plain data, the model's own fields beside it (whose step comes
next, the answers of the free inputs, the response interface), the reset state (R41, R230), and the reasons a step can stop.
-/

namespace Sys2Proof.Machine

/-- The 13 operating states, in code order (R22). -/
inductive OpState where
  | disabling
  | sleep
  | waitingTimeslot
  | waitingRxFrame
  | rxHeader
  | rxFrame
  | txAck
  | ccaBeforeTx
  | txFrame
  | rxAck
  | energyDetection
  | cca
  | continuousCarrier
  deriving DecidableEq, Repr

/-- What a grant resumes while the block waits in WaitingTimeslot (R29). -/
inductive Resume where
  /-- Bit 0: the receive listening path. -/
  | receive
  /-- Bit 1: the continuous carrier. -/
  | continuousCarrier
  deriving DecidableEq, Repr

/-- A transmit job (R30). Its `valid` bit is that `S.job` is not `none`. -/
structure TxJob where
  /-- The frame handle the block owns. -/
  frame : Handle
  /-- The cca-required flag of the TRANSMIT. -/
  cca : Bool
  /-- `FrameAckRequested(frame)`, sampled when the job was created (R122). -/
  ackReq : Bool
  deriving DecidableEq, Repr

/-- How a transmit job ended (R85). -/
inductive TxOutcome where
  | success
  | channelBusy
  | noAck
  | aborted
  deriving DecidableEq, Repr

/-- An output record (R84). Its words are `OutRec.words` (Operands.lean). -/
inductive OutRec where
  | txDone (outcome : TxOutcome) (frame : Handle)
  | rxDone (buffer : Handle)
  | edDone (energy : BitVec 8)
  | edAborted
  | ccaDone (busy : Bool)
  | ccaAborted
  deriving DecidableEq, Repr

/-- One agent's step to come (R7, R100), with the words it carries. -/
inductive Turn where
  /-- The host issues command word `w`; `a` is the word that follows it on the port, read only where R74 says the command has an
  argument (R54; log 12). -/
  | host (w a : Word)
  /-- The radio interrupt source delivers event word `e` (R210). -/
  | radio (e : Word)
  /-- The arbiter delivers event word `e` (R210). -/
  | arbiter (e : Word)
  /-- The FSM dispatcher performs the head of the queue, if that is enabled (R101). -/
  | dispatcher
  /-- Reset (R230). -/
  | reset
  deriving DecidableEq, Repr

/-- The state record S, and below `edTime` the fields that are the model's own. -/
structure State where
  /-- `S.state` (R22). -/
  state : OpState
  /-- `S.ts_granted`: the arbiter has granted the timeslot and not revoked it since (R25). -/
  tsGranted : Bool
  /-- `S.rx_buffer`: the receive buffer held, or `noHandle` (R26). -/
  rxBuffer : Handle
  /-- `S.pending_rx`: the deferred "start receiving" intent (R27). -/
  pendingRx : Bool
  /-- `S.resume` (R29). -/
  resume : Resume
  /-- `S.job` (R30). -/
  job : Option TxJob
  /-- `S.cfg_channel`: the configured channel (R31). -/
  cfgChannel : BitVec 8
  /-- `S.hw_channel`: the hardware frequency register (R31). -/
  hwChannel : BitVec 8
  /-- `S.pending_channel`: a channel update waits (R31). -/
  pendingChannel : Bool
  /-- `S.cfg_cca`: the configured CCA parameters (R32). -/
  cfgCca : BitVec 16
  /-- `S.hw_cca`: the CCA parameters applied to the radio (R32). -/
  hwCca : BitVec 16
  /-- `S.pending_cca`: a CCA configuration update waits (R32). -/
  pendingCca : Bool
  /-- `S.cs_held`: the critical-section guard (R33). -/
  csHeld : Bool
  /-- `S.evq`: the pending event words, head first (R34). -/
  evq : List Word
  /-- `S.fault`: 0, or the code of the first fault (R35). -/
  fault : BitVec 8
  /-- `S.out_log`: the output records, oldest first (R36). -/
  outLog : List OutRec
  /-- `S.ed_time`: the `time_us` of the last ENERGY_DETECTION that succeeded (R37). -/
  edTime : Word
  /-- Model's own: the response words put on the response interface, oldest first (R70, R82; log 9). -/
  responses : List Word
  /-- Model's own: the OPEN parameters of this block (R8; logs 7, 8). No step writes it. -/
  params : Params
  /-- Model's own: whose step comes next (R7, R60; log 1). -/
  turns : List Turn
  /-- Model's own: the pool's coming answers (R9; log 4). -/
  poolAnswers : List Handle
  /-- Model's own: the coming answers of `AbortableDraw()` (R9; log 4). -/
  abortAnswers : List Bool
  /-- Model's own: the coming answers of `FrameAckRequested` (R9; logs 4, 5). -/
  ackReqAnswers : List Bool
  /-- Model's own: how many answers have been drawn from the free values of Config (log 4). -/
  drawIx : Nat
  deriving DecidableEq, Repr

/-- The reasons a step can stop. A fault of the SPEC (R200) is none of them: it is a next state with `State.fault` written. -/
inductive Fault where
  /-- The head of `S.evq` is no event word. Raised when a dispatch step or IRQ_HANDLER performs it. R108 says it cannot happen, and
  no run from reset reaches it (log 11). Safe: the model stops where the spec gives no effect. -/
  | undecodableEvent
  deriving DecidableEq, Repr

/-- The reasons an instruction can be refused. -/
inductive Refusal where
  /-- The instruction has no meaning in the model yet. Raised by no arm of `exec`. Safe. -/
  | notModelled (mnemonic : String)
  deriving DecidableEq, Repr

/-- The reset state of a block with the parameters `p`: the table of R41, with nothing on any port (log 3). -/
def State.resetWith (p : Params) : State :=
  { state := .sleep, tsGranted := false, rxBuffer := noHandle, pendingRx := false, resume := .receive, job := none,
    cfgChannel := p.channelReset, hwChannel := p.channelReset, pendingChannel := false,
    cfgCca := p.ccaReset, hwCca := p.ccaReset, pendingCca := false,
    csHeld := false, evq := [], fault := 0#8, outLog := [], edTime := 0#32,
    responses := [], params := p, turns := [], poolAnswers := [], abortAnswers := [], ackReqAnswers := [], drawIx := 0 }

/-- The machine right after reset, with the parameters of `Config.defaultParams` (logs 7, 8). -/
def State.reset : State := State.resetWith Config.defaultParams

end Sys2Proof.Machine
end

