-- ==== Sys2Proof/Machine/Flags.lean ====
section
/-!
DEFINITION. The codes and named sets of the operating states (spec/10_state.md R22, R24), the conditions the rules test
(R26, R28, R101), the fault codes (spec/60_exceptions.md R201) and the `need` output (spec/44_arbiter_events.md R182).
-/

namespace Sys2Proof.Machine

/-- The 4-bit code of a state (R22). -/
def OpState.code : OpState → BitVec 4
  | .disabling => 0#4
  | .sleep => 1#4
  | .waitingTimeslot => 2#4
  | .waitingRxFrame => 3#4
  | .rxHeader => 4#4
  | .rxFrame => 5#4
  | .txAck => 6#4
  | .ccaBeforeTx => 7#4
  | .txFrame => 8#4
  | .rxAck => 9#4
  | .energyDetection => 10#4
  | .cca => 11#4
  | .continuousCarrier => 12#4

/-- `RecvFamily` (R24). -/
def OpState.recvFamily : OpState → Bool
  | .waitingTimeslot | .waitingRxFrame | .rxHeader | .rxFrame | .txAck => true
  | .disabling | .sleep | .ccaBeforeTx | .txFrame | .rxAck | .energyDetection | .cca | .continuousCarrier => false

/-- `RecvIdle` (R24). -/
def OpState.recvIdle : OpState → Bool
  | .waitingTimeslot | .waitingRxFrame => true
  | .disabling | .sleep | .rxHeader | .rxFrame | .txAck | .ccaBeforeTx | .txFrame | .rxAck | .energyDetection | .cca
  | .continuousCarrier => false

/-- `TxFamily` (R24). -/
def OpState.txFamily : OpState → Bool
  | .ccaBeforeTx | .txFrame | .rxAck => true
  | .disabling | .sleep | .waitingTimeslot | .waitingRxFrame | .rxHeader | .rxFrame | .txAck | .energyDetection | .cca
  | .continuousCarrier => false

/-- `Probe` (R24). -/
def OpState.probe : OpState → Bool
  | .energyDetection | .cca => true
  | .disabling | .sleep | .waitingTimeslot | .waitingRxFrame | .rxHeader | .rxFrame | .txAck | .ccaBeforeTx | .txFrame | .rxAck
  | .continuousCarrier => false

/-- `Active` (R24): the states that use the radio. -/
def OpState.active : OpState → Bool
  | .waitingRxFrame | .rxHeader | .rxFrame | .txAck | .ccaBeforeTx | .txFrame | .rxAck | .energyDetection | .cca
  | .continuousCarrier => true
  | .disabling | .sleep | .waitingTimeslot => false

/-- `CfgImmediate` (R24): the states in which a configuration update is applied at once. -/
def OpState.cfgImmediate : OpState → Bool
  | .sleep | .waitingTimeslot | .waitingRxFrame => true
  | .disabling | .rxHeader | .rxFrame | .txAck | .ccaBeforeTx | .txFrame | .rxAck | .energyDetection | .cca
  | .continuousCarrier => false

/-- The bit of `S.resume` (R29). -/
def Resume.bit : Resume → BitVec 1
  | .receive => 0#1
  | .continuousCarrier => 1#1

/-- A receive buffer is held: ReceiveBufferAvailability (R26). -/
def State.hasBuffer (s : State) : Bool := s.rxBuffer != noHandle

/-- Idle-armed (R28). -/
def State.idleArmed (s : State) : Bool := s.state == .waitingTimeslot && s.pendingRx

/-- The frame of the job, 0 where there is none (R30, R41: `none` has every field 0; log 14). -/
def State.jobFrame (s : State) : Handle :=
  match s.job with
  | some j => j.frame
  | none => noHandle

/-- The ack_req bit of the job, 0 where there is none (R30, R41; log 14). -/
def State.jobAckReq (s : State) : Bool :=
  match s.job with
  | some j => j.ackReq
  | none => false

/-- A dispatch step is enabled (R101). -/
def State.dispatchEnabled (s : State) : Bool :=
  s.fault == 0#8 && !s.csHeld && !s.evq.isEmpty && s.params.irqDispatch == .autonomous

/-- A delivery finds the queue full (R210). -/
def State.queueFull (s : State) : Bool :=
  match s.params.evqDepth.capacity with
  | some depth => s.evq.length == depth
  | none => false

/-- The faults of R201. -/
inductive FaultCode where
  | illegalEncoding
  | notInCs
  | csNested
  | csNotHeld
  | dispatchInCs
  | evqOverflow
  | nullHandle
  deriving DecidableEq, Repr

/-- The 8-bit code of a fault (R201). -/
def FaultCode.code : FaultCode → BitVec 8
  | .illegalEncoding => 0x01#8
  | .notInCs => 0x02#8
  | .csNested => 0x03#8
  | .csNotHeld => 0x04#8
  | .dispatchInCs => 0x05#8
  | .evqOverflow => 0x06#8
  | .nullHandle => 0x07#8

/-- The level the block shows the arbiter (R86). -/
inductive Need where
  | none
  | idleReceiving
  | transmitting
  deriving DecidableEq, Repr

/-- The 2-bit code of a level (R86). -/
def Need.code : Need → BitVec 2
  | .none => 0#2
  | .idleReceiving => 1#2
  | .transmitting => 2#2

/-- The `need` output, a function of `S.state` alone (R182). -/
def State.need (s : State) : Need :=
  match s.state with
  | .disabling | .sleep => .none
  | .waitingTimeslot | .waitingRxFrame | .rxHeader | .rxFrame => .idleReceiving
  | .energyDetection | .cca => .idleReceiving
  | .txAck | .ccaBeforeTx | .txFrame | .rxAck => .transmitting
  | .continuousCarrier => .transmitting

end Sys2Proof.Machine
end

