-- ==== Sys2Proof/Machine/Operands.lean ====
section
/-!
DEFINITION. What the block puts out, bit by bit: response words (spec/30_encoding.md R82, R83) and output records (R84, R85). The
operands it takes in are assembled by the decoder (R73, R80; Sys2Proof/Decode.lean).
-/

namespace Sys2Proof.Machine

/-- Why a command fails (R83). Code 3 is reserved and never produced. -/
inductive FailReason where
  | illegalState
  | resourceUnavailable
  deriving DecidableEq, Repr

/-- The 2-bit code of a failure reason (R83). -/
def FailReason.code : FailReason → BitVec 2
  | .illegalState => 1#2
  | .resourceUnavailable => 2#2

/-- The fields of a response word, reserved bits 0 (R82): `OK` in [0], `REASON` in [2:1], `TAKEN` in [3], `STATE` in [7:4]. -/
def responseWord (code : BitVec 4) (taken : Bool) (reason : BitVec 2) (ok : Bool) : Word :=
  0#24 ++ code ++ BitVec.ofBool taken ++ reason ++ BitVec.ofBool ok

/-- Success (R82). -/
def respOk : Word := responseWord 0#4 false 0#2 true

/-- Failure for this reason (R82, R83). -/
def respFail (r : FailReason) : Word := responseWord 0#4 false r.code false

/-- Success of a NOTIFY_BUFFER_FREE that takes its buffer (R82, R141). -/
def respTaken : Word := responseWord 0#4 true 0#2 true

/-- The answer of CURRENT_STATE (R82, R140). -/
def respState (st : OpState) : Word := responseWord st.code false 0#2 true

/-- The 2-bit code of an outcome (R85). -/
def TxOutcome.code : TxOutcome → BitVec 2
  | .success => 0#2
  | .channelBusy => 1#2
  | .noAck => 2#2
  | .aborted => 3#2

/-- The words of an output record, `KIND` in [31:24] of the first (R84). -/
def OutRec.words : OutRec → List Word
  | .txDone outcome frame => [0x80#8 ++ outcome.code.setWidth 24, frame]
  | .rxDone buffer => [0x81#8 ++ 0#24, buffer]
  | .edDone energy => [0x82#8 ++ energy.setWidth 24]
  | .edAborted => [0x83#8 ++ 0#24]
  | .ccaDone busy => [0x84#8 ++ (BitVec.ofBool busy).setWidth 24]
  | .ccaAborted => [0x85#8 ++ 0#24]

/-- The output log as the words the host reads (R84, R36). -/
def State.outWords (s : State) : List Word := s.outLog.flatMap OutRec.words

end Sys2Proof.Machine
end

