-- ==== Sys2Proof/Machine/Ops.lean ====
section
/-!
DEFINITION. The primitives of spec/00_scope.md R12, raising a fault (spec/60_exceptions.md R200) and the way out of it, reset
(spec/70_reset_and_hazards.md R230), delivery of an event (R210), and the common procedures of
spec/40_common_procedures.md (R104 to R107, R110, R111).
-/

namespace Sys2Proof.Machine

/-- What a step or a meaning answers. -/
abbrev StepOut := Host.Outcome State Fault Refusal

/-! ## Primitives -/

/-- `Respond(w)` (R12): the answer to the current command. -/
def State.respond (s : State) (w : Word) : State := { s with responses := s.responses ++ [w] }

/-- `Out(rec)` (R12, R36). -/
def State.out (s : State) (r : OutRec) : State := { s with outLog := s.outLog ++ [r] }

/-- `Enqueue(ev)` (R12, R34). -/
def State.enqueue (s : State) (e : Word) : State := { s with evq := s.evq ++ [e] }

/-- What `Dequeue()` leaves: the queue without its head (R12, R34). -/
def State.dropHead (s : State) : State := { s with evq := s.evq.tail }

/-- `Acquire()` (R9, R12): the pool's answer and the state after the draw. Any handle or none; log 4. -/
def State.drawAcquire (s : State) : Handle × State :=
  match s.poolAnswers with
  | h :: rest => (h, { s with poolAnswers := rest })
  | [] => (Config.poolAnswer s.drawIx, { s with drawIx := s.drawIx + 1 })

/-- `AbortableDraw()` (R9, R12): the bit and the state after the draw; log 4. -/
def State.drawAbortable (s : State) : Bool × State :=
  match s.abortAnswers with
  | b :: rest => (b, { s with abortAnswers := rest })
  | [] => (Config.abortAnswer s.drawIx, { s with drawIx := s.drawIx + 1 })

/-- `FrameAckRequested(frame)` (R9, R122): the bit and the state after the draw; logs 4, 5. -/
def State.drawAckRequested (s : State) (frame : Handle) : Bool × State :=
  match s.ackReqAnswers with
  | b :: rest => (b, { s with ackReqAnswers := rest })
  | [] => (Config.ackReqAnswer s.drawIx frame, { s with drawIx := s.drawIx + 1 })

/-! ## Faults, reset and delivery -/

/-- `raise Fault(code)` (R12, R200): the block's taking of an exception. It writes `S.fault` and nothing else. -/
def State.raiseFault (s : State) (c : FaultCode) : State := { s with fault := c.code }

/-- The step of a command that raises `c` (R200): no response, and nothing written but `S.fault`. -/
def faulting (c : FaultCode) (s : State) : StepOut := .next (s.raiseFault c)

/-- Reset (R230), the only way on after a fault (R200): every register of S at its value of R41. The model's own fields stay, so
responses already given are not taken back (log 9) and the agents' later steps still come. -/
def State.resetStep (s : State) : State :=
  { State.resetWith s.params with
    responses := s.responses, turns := s.turns, poolAnswers := s.poolAnswers, abortAnswers := s.abortAnswers,
    ackReqAnswers := s.ackReqAnswers, drawIx := s.drawIx }

/-- `deliver(e)` (R210), for a delivery step that is enabled. -/
def State.deliver (s : State) (e : Word) : State :=
  if isEventWord e then
    if s.queueFull then s.raiseFault .evqOverflow else s.enqueue e
  else s.raiseFault .illegalEncoding

/-! ## Common procedures -/

/-- The acquire of `enter_rx_listen()` (R104): where no buffer is held, one is drawn from the pool. -/
def State.acquireIfNone (s : State) : State :=
  if s.rxBuffer = noHandle then { s.drawAcquire.2 with rxBuffer := s.drawAcquire.1 } else s

/-- The rest of `enter_rx_listen()` (R104), once the acquire is done. -/
def State.listenWithBuffer (s : State) : State :=
  if s.rxBuffer = noHandle then { s with pendingRx := true, state := .waitingTimeslot }
  else { s with pendingRx := false, state := if s.tsGranted then .waitingRxFrame else .waitingTimeslot }

/-- `enter_rx_listen()` (R104). -/
def State.enterRxListen (s : State) : State :=
  State.listenWithBuffer (State.acquireIfNone { s with resume := .receive })

/-- `drop_reception()` (R105): writes no register and produces no output. -/
def State.dropReception (s : State) : State := s

/-- `complete_job(outcome)` (R106). -/
def State.completeJob (s : State) (outcome : TxOutcome) : State :=
  State.enterRxListen { s.out (.txDone outcome s.jobFrame) with job := none }

/-- `apply_channel` with the flag it answers to (R107). -/
def State.applyChannel (s : State) : State :=
  if s.pendingChannel then { s with hwChannel := s.cfgChannel, pendingChannel := false } else s

/-- `apply_cca` with the flag it answers to (R107). -/
def State.applyCca (s : State) : State :=
  if s.pendingCca then { s with hwCca := s.cfgCca, pendingCca := false } else s

/-- `settle()` (R107). -/
def State.settle (s : State) : State :=
  if s.state.cfgImmediate then s.applyChannel.applyCca else s

/-- `if S.state in {RxHeader, RxFrame, TxAck} then drop_reception()` (R110, R181). -/
def State.dropIfReceiving (s : State) : State :=
  match s.state with
  | .rxHeader | .rxFrame | .txAck => s.dropReception
  | .disabling | .sleep | .waitingTimeslot | .waitingRxFrame | .ccaBeforeTx | .txFrame | .rxAck | .energyDetection | .cca
  | .continuousCarrier => s

/-- `start_probe(target)` (R110). -/
def State.startProbe (s : State) (target : OpState) : State :=
  { s.dropIfReceiving with pendingRx := false, resume := .receive, state := target }

/-- What `probe_source_check()` answers (R111). -/
inductive ProbeCheck where
  | legal
  | fails (r : FailReason)
  deriving DecidableEq, Repr

/-- `probe_source_check()` (R111). It writes nothing. -/
def State.probeSourceCheck (s : State) : ProbeCheck :=
  match s.state with
  | .waitingRxFrame | .rxHeader | .rxFrame | .txAck => .legal
  | .sleep => if s.tsGranted then .legal else .fails .resourceUnavailable
  | .waitingTimeslot =>
    if s.resume = .continuousCarrier then .fails .illegalState
    else if s.tsGranted then .legal else .fails .resourceUnavailable
  | .disabling | .ccaBeforeTx | .txFrame | .rxAck | .energyDetection | .cca | .continuousCarrier => .fails .illegalState

/-! ## The frame of a command and of an event -/

/-- The end of a command step that does not fault (R102 check 5): `settle()`, then the command's `Respond`. -/
def finish (r : State × Word) : StepOut := .next (r.1.settle.respond r.2)

/-- Check 4 of R102 for a command that needs the critical section. -/
def inCriticalSection (s : State) (run : StepOut) : StepOut :=
  if s.csHeld then run else faulting .notInCs s

/-- Check 3 of R102, for a command with a handle argument. -/
def withHandle (h : Handle) (s : State) (run : StepOut) : StepOut :=
  if h = noHandle then faulting .nullHandle s else run

/-- The end of a dispatch step (R101): `settle()`. It gives no response. -/
def dispatched (s : State) : StepOut := .next s.settle

end Sys2Proof.Machine
end

