-- ==== Sys2Proof/Machine/Requests.lean ====
section
/-!
DEFINITION. The six transition requests of spec/41_transition_requests.md (R120 to R125). Each `…Rule` is the rule's effect and
response; each `exec…` puts it in the command step of R102.
-/

namespace Sys2Proof.Machine

/-- The writes of a SLEEP that succeeds (R120). -/
def State.powerDown (s : State) : State := { s with pendingRx := false, resume := .receive, state := .disabling }

/-- The effect of SLEEP (R120): legal in WaitingTimeslot with `resume = Receive`, in WaitingRxFrame, and in RxHeader when the draw
says the reception is safely abortable. -/
def sleepRule (s : State) : State × Word :=
  match s.state with
  | .waitingTimeslot => if s.resume = .receive then (s.powerDown, respOk) else (s, respFail .illegalState)
  | .waitingRxFrame => (s.powerDown, respOk)
  | .rxHeader =>
    if s.drawAbortable.1 then (s.drawAbortable.2.dropReception.powerDown, respOk)
    else (s.drawAbortable.2, respFail .illegalState)
  | .disabling | .sleep | .rxFrame | .txAck | .ccaBeforeTx | .txFrame | .rxAck | .energyDetection | .cca
  | .continuousCarrier => (s, respFail .illegalState)

/-- SLEEP (R120). -/
def execSleep (s : State) : StepOut := inCriticalSection s (finish (sleepRule s))

/-- The effect of RECEIVE (R121). -/
def receiveRule (s : State) : State × Word :=
  match s.state with
  | .sleep | .continuousCarrier => (s.enterRxListen, respOk)
  | .waitingTimeslot => if s.resume = .continuousCarrier then (s.enterRxListen, respOk) else (s, respOk)
  | .waitingRxFrame | .rxHeader | .rxFrame | .txAck => (s, respOk)
  | .disabling | .ccaBeforeTx | .txFrame | .rxAck | .energyDetection | .cca => (s, respFail .illegalState)

/-- RECEIVE (R121). -/
def execReceive (s : State) : StepOut := inCriticalSection s (finish (receiveRule s))

/-- The writes of a TRANSMIT that succeeds (R122): the job is created, its ack_req drawn once. -/
def State.startJob (s : State) (frame : Handle) (ccaRequired : Bool) : State :=
  { (s.drawAckRequested frame).2 with
    job := some { frame := frame, cca := ccaRequired, ackReq := (s.drawAckRequested frame).1 },
    state := if ccaRequired then .ccaBeforeTx else .txFrame }

/-- The effect of TRANSMIT (R122). -/
def transmitRule (frame : Handle) (ccaRequired : Bool) (s : State) : State × Word :=
  match s.state with
  | .waitingRxFrame => (s.startJob frame ccaRequired, respOk)
  | .rxHeader | .rxFrame => (s.dropReception.startJob frame ccaRequired, respOk)
  | .waitingTimeslot => (s, respFail .resourceUnavailable)
  | .disabling | .sleep | .txAck | .ccaBeforeTx | .txFrame | .rxAck | .energyDetection | .cca | .continuousCarrier =>
    (s, respFail .illegalState)

/-- TRANSMIT (R122). -/
def execTransmit (frame : Handle) (ccaRequired : Bool) (s : State) : StepOut :=
  withHandle frame s (inCriticalSection s (finish (transmitRule frame ccaRequired s)))

/-- The shape shared by R123 to R125: `start` runs if `probe_source_check()` allows it. -/
def probeRule (s start : State) : State × Word :=
  match s.probeSourceCheck with
  | .legal => (start, respOk)
  | .fails r => (s, respFail r)

/-- ENERGY_DETECTION (R123). -/
def execEnergyDetection (timeUs : Word) (s : State) : StepOut :=
  inCriticalSection s (finish (probeRule s (State.startProbe { s with edTime := timeUs } .energyDetection)))

/-- CCA (R124). -/
def execCca (s : State) : StepOut := inCriticalSection s (finish (probeRule s (s.startProbe .cca)))

/-- CONTINUOUS_CARRIER (R125). -/
def execContinuousCarrier (s : State) : StepOut :=
  inCriticalSection s (finish (probeRule s (s.startProbe .continuousCarrier)))

end Sys2Proof.Machine
end

