-- ==== Sys2Proof/Machine/ArbiterEvents.lean ====
section
/-!
DEFINITION. The arbiter events of spec/44_arbiter_events.md (R180, R181), in the form of RadioEvents.lean.
-/

namespace Sys2Proof.Machine

/-- EV_TS_GRANT (R180). An idle-armed block stays, and makes no acquire. -/
def tsGrantRule (s : State) : State :=
  let s := { s with tsGranted := true }
  match s.state with
  | .waitingTimeslot =>
    if s.resume = .continuousCarrier then { s with resume := .receive, state := .continuousCarrier }
    else if s.pendingRx then s else s.enterRxListen
  | .disabling | .sleep | .waitingRxFrame | .rxHeader | .rxFrame | .txAck | .ccaBeforeTx | .txFrame | .rxAck
  | .energyDetection | .cca | .continuousCarrier => s

/-- EV_TS_GRANT dispatched (R180, R101). -/
def execEvTsGrant (s : State) : StepOut := dispatched (tsGrantRule s)

/-- EV_TS_REVOKE (R181). `ts_granted` is written first, so `enter_rx_listen()` lands in WaitingTimeslot. -/
def tsRevokeRule (s : State) : State :=
  let s := { s with tsGranted := false }
  match s.state with
  | .sleep | .waitingTimeslot => s
  | .disabling => { s with state := .sleep }
  | .waitingRxFrame | .rxHeader | .rxFrame | .txAck => s.dropIfReceiving.enterRxListen
  | .ccaBeforeTx | .txFrame | .rxAck => s.completeJob .aborted
  | .energyDetection => (s.out .edAborted).enterRxListen
  | .cca => (s.out .ccaAborted).enterRxListen
  | .continuousCarrier => { s with resume := .continuousCarrier, state := .waitingTimeslot }

/-- EV_TS_REVOKE dispatched (R181, R101). -/
def execEvTsRevoke (s : State) : StepOut := dispatched (tsRevokeRule s)

end Sys2Proof.Machine
end

