-- ==== Sys2Proof/Machine/RadioEvents.lean ====
section
/-!
DEFINITION. The radio events of spec/43_radio_events.md (R160 to R168). Each `…Rule` is the event's effect, which leaves the state
as it is wherever the rule names no effect (R109); each `exec…` is the dispatch of that event (R101), the word already taken off
the queue.
-/

namespace Sys2Proof.Machine

/-- EV_RX_START (R160). -/
def rxStartRule (s : State) : State :=
  match s.state with
  | .waitingRxFrame => { s with state := .rxHeader }
  | .disabling | .sleep | .waitingTimeslot | .rxHeader | .rxFrame | .txAck | .ccaBeforeTx | .txFrame | .rxAck
  | .energyDetection | .cca | .continuousCarrier => s

/-- EV_RX_START dispatched (R160, R101). -/
def execEvRxStart (s : State) : StepOut := dispatched (rxStartRule s)

/-- EV_RX_ADDR_MATCH (R161): the frame is dropped and the buffer kept where it is not for this device. -/
def rxAddrMatchRule (addressed : Bool) (s : State) : State :=
  match s.state with
  | .rxHeader => if addressed then { s with state := .rxFrame } else { s.dropReception with state := .waitingRxFrame }
  | .disabling | .sleep | .waitingTimeslot | .waitingRxFrame | .rxFrame | .txAck | .ccaBeforeTx | .txFrame | .rxAck
  | .energyDetection | .cca | .continuousCarrier => s

/-- EV_RX_ADDR_MATCH dispatched (R161, R101). -/
def execEvRxAddrMatch (addressed : Bool) (s : State) : StepOut := dispatched (rxAddrMatchRule addressed s)

/-- EV_RX_COMPLETE (R162): the frame goes up with its buffer, then the ACK or the listening path. -/
def rxCompleteRule (ackRequested : Bool) (s : State) : State :=
  match s.state with
  | .rxFrame =>
    let up := { s.out (.rxDone s.rxBuffer) with rxBuffer := noHandle }
    if ackRequested then { up with state := .txAck } else up.enterRxListen
  | .disabling | .sleep | .waitingTimeslot | .waitingRxFrame | .rxHeader | .txAck | .ccaBeforeTx | .txFrame | .rxAck
  | .energyDetection | .cca | .continuousCarrier => s

/-- EV_RX_COMPLETE dispatched (R162, R101). -/
def execEvRxComplete (ackRequested : Bool) (s : State) : StepOut := dispatched (rxCompleteRule ackRequested s)

/-- EV_TX_COMPLETE (R163): the end of the job's frame in TxFrame, of the ACK in TxAck. -/
def txCompleteRule (s : State) : State :=
  match s.state with
  | .txFrame => if s.jobAckReq then { s with state := .rxAck } else s.completeJob .success
  | .txAck => s.enterRxListen
  | .disabling | .sleep | .waitingTimeslot | .waitingRxFrame | .rxHeader | .rxFrame | .ccaBeforeTx | .rxAck
  | .energyDetection | .cca | .continuousCarrier => s

/-- EV_TX_COMPLETE dispatched (R163, R101). -/
def execEvTxComplete (s : State) : StepOut := dispatched (txCompleteRule s)

/-- EV_ACK_RECEIVED (R164). -/
def ackReceivedRule (matching : Bool) (s : State) : State :=
  match s.state with
  | .rxAck => if matching then s.completeJob .success else s
  | .disabling | .sleep | .waitingTimeslot | .waitingRxFrame | .rxHeader | .rxFrame | .txAck | .ccaBeforeTx | .txFrame
  | .energyDetection | .cca | .continuousCarrier => s

/-- EV_ACK_RECEIVED dispatched (R164, R101). -/
def execEvAckReceived (matching : Bool) (s : State) : StepOut := dispatched (ackReceivedRule matching s)

/-- EV_ACK_TIMEOUT (R165). -/
def ackTimeoutRule (s : State) : State :=
  match s.state with
  | .rxAck => s.completeJob .noAck
  | .disabling | .sleep | .waitingTimeslot | .waitingRxFrame | .rxHeader | .rxFrame | .txAck | .ccaBeforeTx | .txFrame
  | .energyDetection | .cca | .continuousCarrier => s

/-- EV_ACK_TIMEOUT dispatched (R165, R101). -/
def execEvAckTimeout (s : State) : StepOut := dispatched (ackTimeoutRule s)

/-- EV_ED_COMPLETE (R166). -/
def edCompleteRule (energy : BitVec 8) (s : State) : State :=
  match s.state with
  | .energyDetection => (s.out (.edDone energy)).enterRxListen
  | .disabling | .sleep | .waitingTimeslot | .waitingRxFrame | .rxHeader | .rxFrame | .txAck | .ccaBeforeTx | .txFrame | .rxAck
  | .cca | .continuousCarrier => s

/-- EV_ED_COMPLETE dispatched (R166, R101). -/
def execEvEdComplete (energy : BitVec 8) (s : State) : StepOut := dispatched (edCompleteRule energy s)

/-- EV_CCA_COMPLETE (R167): in CcaBeforeTx it decides the job's next step, in Cca it is the probe's result. -/
def ccaCompleteRule (busy : Bool) (s : State) : State :=
  match s.state with
  | .ccaBeforeTx => if busy then s.completeJob .channelBusy else { s with state := .txFrame }
  | .cca => (s.out (.ccaDone busy)).enterRxListen
  | .disabling | .sleep | .waitingTimeslot | .waitingRxFrame | .rxHeader | .rxFrame | .txAck | .txFrame | .rxAck
  | .energyDetection | .continuousCarrier => s

/-- EV_CCA_COMPLETE dispatched (R167, R101). -/
def execEvCcaComplete (busy : Bool) (s : State) : StepOut := dispatched (ccaCompleteRule busy s)

/-- EV_DISABLED (R168). -/
def disabledRule (s : State) : State :=
  match s.state with
  | .disabling => { s with state := .sleep }
  | .sleep | .waitingTimeslot | .waitingRxFrame | .rxHeader | .rxFrame | .txAck | .ccaBeforeTx | .txFrame | .rxAck
  | .energyDetection | .cca | .continuousCarrier => s

/-- EV_DISABLED dispatched (R168, R101). -/
def execEvDisabled (s : State) : StepOut := dispatched (disabledRule s)

end Sys2Proof.Machine
end

