-- ==== Sys2Proof/Machine/Services.lean ====
section
/-!
DEFINITION. The query, the notifications, interrupt dispatch, the guard and the configuration writes of
spec/42_host_services.md (R140 to R148), and `perform_event` (spec/40_common_procedures.md R108).
-/

namespace Sys2Proof.Machine

/-- CURRENT_STATE (R140). -/
def execCurrentState (s : State) : StepOut := inCriticalSection s (finish (s, respState s.state))

/-- The effect of NOTIFY_BUFFER_FREE (R141): only an idle-armed block takes the buffer. -/
def notifyBufferFreeRule (buffer : Handle) (s : State) : State × Word :=
  if s.idleArmed then
    ({ s with rxBuffer := buffer, pendingRx := false,
              state := if s.tsGranted then .waitingRxFrame else .waitingTimeslot }, respTaken)
  else (s, respOk)

/-- NOTIFY_BUFFER_FREE (R141). -/
def execNotifyBufferFree (buffer : Handle) (s : State) : StepOut :=
  withHandle buffer s (inCriticalSection s (finish (notifyBufferFreeRule buffer s)))

/-- CHANNEL_UPDATE (R142). The `settle()` that ends the step applies it at once in a CfgImmediate state. -/
def execChannelUpdate (s : State) : StepOut := inCriticalSection s (finish ({ s with pendingChannel := true }, respOk))

/-- CCA_CFG_UPDATE (R143). -/
def execCcaCfgUpdate (s : State) : StepOut := inCriticalSection s (finish ({ s with pendingCca := true }, respOk))

/-- `perform_event(ev)` (R108): the event's rule, and `none` for what is no event. -/
def performEvent (i : Instr) (s : State) : Option State :=
  match i with
  | .evRxStart => some (rxStartRule s)
  | .evRxAddrMatch addressed => some (rxAddrMatchRule addressed s)
  | .evRxComplete ackRequested => some (rxCompleteRule ackRequested s)
  | .evTxComplete => some (txCompleteRule s)
  | .evAckReceived matching => some (ackReceivedRule matching s)
  | .evAckTimeout => some (ackTimeoutRule s)
  | .evEdComplete energy => some (edCompleteRule energy s)
  | .evCcaComplete busy => some (ccaCompleteRule busy s)
  | .evDisabled => some (disabledRule s)
  | .evTsGrant => some (tsGrantRule s)
  | .evTsRevoke => some (tsRevokeRule s)
  | .sleep | .receive | .transmit _ _ | .energyDetection _ | .cca | .continuousCarrier => none
  | .currentState | .notifyBufferFree _ | .channelUpdate | .ccaCfgUpdate | .irqHandler => none
  | .csEnter | .csExit | .cfgSetChannel _ | .cfgSetCca _ => none

/-- `Dequeue()` and `perform_event` of the word at the head of the queue (R144), `none` where that word is no event (log 11). -/
def performHead (e : Word) (s : State) : Option State :=
  match decodeEv e with
  | .ok i => performEvent i s.dropHead
  | .error _ => none

/-- The effect of IRQ_HANDLER (R144): at most one event, and nothing written where the queue is empty. -/
def irqHandlerRule (s : State) : StepOut :=
  match s.evq with
  | [] => finish (s, respOk)
  | e :: _ =>
    match performHead e s with
    | some t => finish (t, respOk)
    | none => .fault .undecodableEvent

/-- IRQ_HANDLER (R144), with its own guard: it is illegal where the block dispatches by itself (R78) and inside the critical
section. -/
def execIrqHandler (s : State) : StepOut :=
  if s.params.irqDispatch = .autonomous then faulting .illegalEncoding s
  else if s.csHeld then faulting .dispatchInCs s
  else irqHandlerRule s

/-- CS_ENTER (R145). -/
def execCsEnter (s : State) : StepOut :=
  if s.csHeld then faulting .csNested s else finish ({ s with csHeld := true }, respOk)

/-- CS_EXIT (R146). -/
def execCsExit (s : State) : StepOut :=
  if s.csHeld then finish ({ s with csHeld := false }, respOk) else faulting .csNotHeld s

/-- CFG_SET_CHANNEL (R147). -/
def execCfgSetChannel (channel : BitVec 8) (s : State) : StepOut := finish ({ s with cfgChannel := channel }, respOk)

/-- CFG_SET_CCA (R148). -/
def execCfgSetCca (ccacfg : BitVec 16) (s : State) : StepOut := finish ({ s with cfgCca := ccacfg }, respOk)

end Sys2Proof.Machine
end

