-- ==== Sys2Proof/Machine/Dispatch.lean ====
section
/-!
DEFINITION. The dispatch of an instruction to its meaning, one arm per constructor.
-/

namespace Sys2Proof.Machine

def exec (i : Instr) (s : State) : Host.Outcome State Fault Refusal :=
  match i with
  | .sleep => Sys2Proof.Machine.execSleep s
  | .receive => Sys2Proof.Machine.execReceive s
  | .transmit frame ccaRequired => Sys2Proof.Machine.execTransmit frame ccaRequired s
  | .energyDetection timeUs => Sys2Proof.Machine.execEnergyDetection timeUs s
  | .cca => Sys2Proof.Machine.execCca s
  | .continuousCarrier => Sys2Proof.Machine.execContinuousCarrier s
  | .currentState => Sys2Proof.Machine.execCurrentState s
  | .notifyBufferFree buffer => Sys2Proof.Machine.execNotifyBufferFree buffer s
  | .channelUpdate => Sys2Proof.Machine.execChannelUpdate s
  | .ccaCfgUpdate => Sys2Proof.Machine.execCcaCfgUpdate s
  | .irqHandler => Sys2Proof.Machine.execIrqHandler s
  | .csEnter => Sys2Proof.Machine.execCsEnter s
  | .csExit => Sys2Proof.Machine.execCsExit s
  | .cfgSetChannel channel => Sys2Proof.Machine.execCfgSetChannel channel s
  | .cfgSetCca ccacfg => Sys2Proof.Machine.execCfgSetCca ccacfg s
  | .evRxStart => Sys2Proof.Machine.execEvRxStart s
  | .evRxAddrMatch addressed => Sys2Proof.Machine.execEvRxAddrMatch addressed s
  | .evRxComplete ackRequested => Sys2Proof.Machine.execEvRxComplete ackRequested s
  | .evTxComplete => Sys2Proof.Machine.execEvTxComplete s
  | .evAckReceived matching => Sys2Proof.Machine.execEvAckReceived matching s
  | .evAckTimeout => Sys2Proof.Machine.execEvAckTimeout s
  | .evEdComplete energy => Sys2Proof.Machine.execEvEdComplete energy s
  | .evCcaComplete busy => Sys2Proof.Machine.execEvCcaComplete busy s
  | .evDisabled => Sys2Proof.Machine.execEvDisabled s
  | .evTsGrant => Sys2Proof.Machine.execEvTsGrant s
  | .evTsRevoke => Sys2Proof.Machine.execEvTsRevoke s

end Sys2Proof.Machine
end

