-- ==== Sys2Proof/Machine/Turns.lean ====
section
/-!
DEFINITION. The four kinds of step of spec/40_common_procedures.md R100, one per kind of turn, and how an instruction is put where
the next step takes it.
-/

namespace Sys2Proof.Machine

/-- A command step (R102): not enabled while a fault stands (check 1), a fault where the words do not decode (check 2), else the
command. -/
def hostStep (w a : Word) (s : State) : StepOut :=
  if s.fault = 0#8 then
    match decodeCmd s.params.irqDispatch w a with
    | .ok i => exec i s
    | .error _ => faulting .illegalEncoding s
  else .next s

/-- A delivery step (R210): not enabled while a fault stands (R200), and blind to the critical section. -/
def deliveryStep (e : Word) (s : State) : StepOut :=
  if s.fault = 0#8 then .next (s.deliver e) else .next s

/-- The event at the head of the queue is dequeued and dispatched (R101). -/
def dispatchHead (e : Word) (s : State) : StepOut :=
  match decodeEv e with
  | .ok i => exec i s.dropHead
  | .error _ => .fault .undecodableEvent

/-- A dispatch step (R101), and nothing where it is not enabled. -/
def dispatchStep (s : State) : StepOut :=
  if s.dispatchEnabled then
    match s.evq with
    | [] => .next s
    | e :: _ => dispatchHead e s
  else .next s

/-- The step of the agent whose turn it is. A step that is not enabled leaves S as it is (R200; log 1). -/
def takeTurn (t : Turn) (s : State) : StepOut :=
  match t with
  | .host w a => hostStep w a s
  | .radio e => deliveryStep e s
  | .arbiter e => deliveryStep e s
  | .dispatcher => dispatchStep s
  | .reset => .next s.resetStep

/-- The next step: the first turn's, and with no turn left the dispatcher's, so that no enabled dispatch waits for ever
(R252; log 2). -/
def nextStep (s : State) : StepOut :=
  match s.turns with
  | t :: rest => takeTurn t { s with turns := rest }
  | [] => dispatchStep s

/-- The turns that issue, or deliver and dispatch, an instruction (R89). -/
def turnsOf (i : Instr) : List Turn :=
  if i.isEvent then [.radio i.word, .dispatcher] else [.host i.word (i.argument.getD 0#32)]

/-- The turns of a program in the notation of R89 and R90. -/
def programTurns (is : List Instr) : List Turn := is.flatMap turnsOf

/-- `s` with command word `w` and argument `a` as the next thing the host issues. A command step needs `S.fault = 0` (R102), and
IRQ_HANDLER is a command only where the host owns dispatch (R78; log 15). -/
def State.issueNext (s : State) (w a : Word) : State :=
  { s with
    turns := .host w a :: s.turns, fault := 0#8,
    params := if opcodeOf w = 0x0C#8 then { s.params with irqDispatch := .hostCalled } else s.params }

/-- `s` with event word `e` at the head of the queue and the dispatcher next, and what R101 asks for a dispatch step (log 15). -/
def State.dispatchNext (s : State) (e : Word) : State :=
  { s with
    turns := .dispatcher :: s.turns, evq := e :: s.evq, fault := 0#8, csHeld := false,
    params := { s.params with irqDispatch := .autonomous } }

/-- `s` with the instruction of a table row placed where the next step takes it (log 15). -/
def State.placeWord (s : State) (nbits w : Nat) : State :=
  let bits := w % 2 ^ nbits
  let first : Word := BitVec.ofNat 32 bits
  if isEventWord first then s.dispatchNext first else s.issueNext first (BitVec.ofNat 32 (bits >>> 32))

end Sys2Proof.Machine
end

