-- ==== Sys2Proof/Machine/Step.lean ====
section
/-!
DEFINITION. One step of the machine, and the placing of an instruction where the next step takes it; both are Turns.lean's.
-/

namespace Sys2Proof.Machine

/-- One step of the model (R100): `nextStep`. -/
def step : State → Host.Outcome State Fault Refusal := nextStep

/-- `s` with the instruction whose bits are `w` placed where the next step takes it: `State.placeWord`. -/
def State.withFetchWord (s : State) (nbits w : Nat) : State := s.placeWord nbits w

end Sys2Proof.Machine
end

