-- ==== Sys2Proof/Safety.lean ====
section
/-!
DEFINITION. The terms the statements use: the invariants of spec/10_state.md (R42 to R48), the states a run reaches, what the host
observes (R49), what the environment owes (spec/70_reset_and_hazards.md R252, R253), and closed forms of the common procedures and
of the two matrices (R126, R169), written from the spec's tables and not from the meanings.
-/

namespace Sys2Proof.Safety

open Sys2Proof.Machine

/-! ## Invariants and reachable states -/

/-- The invariants the spec states of every reachable state. -/
structure BlockInv (s : State) : Prop where
  /-- R42: a job exists exactly in TxFamily. -/
  job_iff_tx : s.job.isSome = s.state.txFamily
  /-- R43: an Active state has the timeslot. -/
  active_granted : s.state.active = true → s.tsGranted = true
  /-- R44: a listening state holds a buffer. -/
  listening_buffer :
    (s.state = .waitingRxFrame ∨ s.state = .rxHeader ∨ s.state = .rxFrame) → s.rxBuffer ≠ noHandle
  /-- R45, first sentence. -/
  pending_waits : s.pendingRx = true → s.state = .waitingTimeslot ∧ s.rxBuffer = noHandle
  /-- R45, second sentence. -/
  pending_iff_no_buffer :
    s.state = .waitingTimeslot → s.resume = .receive → (s.pendingRx = true ↔ s.rxBuffer = noHandle)
  /-- R46: a suspended carrier waits without the timeslot. -/
  suspended_waits : s.resume = .continuousCarrier → s.state = .waitingTimeslot ∧ s.tsGranted = false
  /-- R47: no configuration update waits in a CfgImmediate state. -/
  settled : s.state.cfgImmediate = true → s.pendingChannel = false ∧ s.pendingCca = false
  /-- R48: with the timeslot, WaitingTimeslot waits for a buffer. -/
  granted_waits_buffer : s.state = .waitingTimeslot → s.tsGranted = true → s.pendingRx = true
  /-- DEDUCED (log 13): a suspended carrier has no deferred receive intent. R42 to R48 need it to be kept by a grant. -/
  suspended_not_pending : s.resume = .continuousCarrier → s.pendingRx = false
  /-- R30: the frame of a job is a nonzero handle. -/
  job_frame : ∀ j, s.job = some j → j.frame ≠ noHandle
  /-- R108: every queued word decodes. -/
  queue_decodes : ∀ e ∈ s.evq, isEventWord e = true
  /-- R34: the queue holds at most `EVQ_DEPTH` events. -/
  queue_bounded : ∀ depth, s.params.evqDepth.capacity = some depth → s.evq.length ≤ depth
  /-- R201: the fault register holds 0 or a code of the table. -/
  fault_code : s.fault.toNat ≤ 7

/-- The reset state of a block with any parameters, with any steps of the agents and any answers to come: how every run starts
(R41; log 3). -/
def started (p : Params) (turns : List Turn) (pool : List Handle) (abort ackReq : List Bool) : State :=
  { State.resetWith p with turns := turns, poolAnswers := pool, abortAnswers := abort, ackReqAnswers := ackReq }

/-- The states that some run from reset reaches, over all parameters, interleavings and answers. -/
inductive Reachable : State → Prop where
  | start (p : Params) (turns : List Turn) (pool : List Handle) (abort ackReq : List Bool) :
      Reachable (started p turns pool abort ackReq)
  | step (s t : State) : Reachable s → step s = .next t → Reachable t

/-- Every register of S is as it was: only the model's own fields may differ. -/
def SameRegisters (s t : State) : Prop :=
  t = { s with
    responses := t.responses, params := t.params, turns := t.turns, poolAnswers := t.poolAnswers,
    abortAnswers := t.abortAnswers, ackReqAnswers := t.ackReqAnswers, drawIx := t.drawIx }

/-! ## What is observed and what is owed -/

/-- What the host, the radio and the arbiter see of the block (R49). -/
structure Observation where
  responses : List Word
  outputs : List Word
  need : BitVec 2
  hwChannel : BitVec 8
  hwCca : BitVec 16
  fault : BitVec 8
  deriving DecidableEq, Repr

/-- The observation of a state (R49). -/
def observe (s : State) : Observation :=
  { responses := s.responses, outputs := s.outWords, need := s.need.code,
    hwChannel := s.hwChannel, hwCca := s.hwCca, fault := s.fault }

/-- The events of which the radio must deliver one while the block is in a state (R253). -/
def owed : OpState → List Instr
  | .disabling => [.evDisabled]
  | .ccaBeforeTx | .cca => [.evCcaComplete true, .evCcaComplete false]
  | .txFrame | .txAck => [.evTxComplete]
  | .rxAck => [.evAckReceived true, .evAckTimeout]
  | .energyDetection => List.ofFn fun v : Fin 256 => .evEdComplete (BitVec.ofFin v)
  | .sleep | .waitingTimeslot | .waitingRxFrame | .rxHeader | .rxFrame | .continuousCarrier => []

/-- Weak fairness of the dispatcher over an endless run (R252): if dispatch is enabled from some step on, then some later step is
the dispatcher's. It is an assumption on schedules, not a fact of the block. -/
def FairDispatch (run : Nat → State) : Prop :=
  ∀ n, (∀ k, n ≤ k → (run k).dispatchEnabled = true) →
    ∃ k, n ≤ k ∧ ((run k).turns = [] ∨ ∃ rest, (run k).turns = .dispatcher :: rest)

/-! ## Closed forms of the common procedures -/

/-- `S` after `settle()`, register by register (R107). -/
def settled (s : State) : State :=
  { s with
    hwChannel := if s.state.cfgImmediate && s.pendingChannel then s.cfgChannel else s.hwChannel,
    pendingChannel := s.pendingChannel && !s.state.cfgImmediate,
    hwCca := if s.state.cfgImmediate && s.pendingCca then s.cfgCca else s.hwCca,
    pendingCca := s.pendingCca && !s.state.cfgImmediate }

/-- `S` with the configured values applied and nothing deferred: what `settle()` leaves in a CfgImmediate state (R107). -/
def applied (s : State) : State :=
  { s with
    hwChannel := if s.pendingChannel then s.cfgChannel else s.hwChannel, pendingChannel := false,
    hwCca := if s.pendingCca then s.cfgCca else s.hwCca, pendingCca := false }

/-- The buffer the listening path works with, and the state after the draw if one was made (R104): the one held, else the pool's
answer. -/
def bufferFor (s : State) : Handle × State :=
  if s.rxBuffer ≠ noHandle then (s.rxBuffer, s)
  else
    match s.poolAnswers with
    | h :: rest => (h, { s with poolAnswers := rest })
    | [] => (Config.poolAnswer s.drawIx, { s with drawIx := s.drawIx + 1 })

/-- `S` after the listening path is armed with buffer `h` or with none, register by register (R104). -/
def armedWith (h : Handle) (s : State) : State :=
  { s with
    rxBuffer := h, resume := .receive, pendingRx := h == noHandle,
    state := if h ≠ noHandle ∧ s.tsGranted = true then .waitingRxFrame else .waitingTimeslot }

/-- `S` after `enter_rx_listen()` (R104). -/
def armed (s : State) : State := armedWith (bufferFor s).1 (bufferFor s).2

/-- `S` after a step that ends in `enter_rx_listen()` and `settle()` (R104, R107): it always lands in a CfgImmediate state. -/
def listening (s : State) : State := applied (armed s)

/-- `S` after a step that ends the job with this outcome (R106, R107). -/
def jobEnded (outcome : TxOutcome) (s : State) : State :=
  listening { s with outLog := s.outLog ++ [.txDone outcome s.jobFrame], job := none }

/-- The step of a command that answers `w`. -/
def answers (t : State) (w : Word) : StepOut := .next { t with responses := t.responses ++ [w] }

/-- The step of a command that faults with code `c`: nothing written but `S.fault`, no response (R200). -/
def faults (s : State) (c : BitVec 8) : StepOut := .next { s with fault := c }

/-! ## Guards the rules of files 41 and 42 share -/

/-- A command word with this opcode and a 1 in its bits [23:n] faults with `F_ILLEGAL_ENCODING` (R76). -/
def ReservedBitsFault (opc : BitVec 8) (n : Nat) : Prop :=
  ∀ w a s, s.fault = 0#8 → opcodeOf w = opc → reservedAbove n w ≠ 0#24 → hostStep w a s = faults s 0x01#8

/-- Outside the critical section the command faults with `F_NOT_IN_CS` (R102). -/
def NeedsCriticalSection (i : Instr) : Prop := ∀ s, s.csHeld = false → exec i s = faults s 0x02#8

/-- The effect table of R123, and by reference of R124 and R125: `start` is what a success writes beside the three registers of
R110. -/
def ProbeTable (i : Instr) (target : OpState) (start : State → State) : Prop :=
  ∀ s, s.csHeld = true →
    ((s.state = .waitingRxFrame ∨ s.state = .rxHeader ∨ s.state = .rxFrame ∨ s.state = .txAck ∨
        (s.state = .sleep ∧ s.tsGranted = true) ∨
        (s.state = .waitingTimeslot ∧ s.resume = .receive ∧ s.tsGranted = true)) →
      exec i s = answers { start s with pendingRx := false, resume := .receive, state := target } 0x00000001#32) ∧
    ((s.state = .sleep ∧ s.tsGranted = false ∨
        s.state = .waitingTimeslot ∧ s.resume = .receive ∧ s.tsGranted = false) →
      exec i s = answers (settled s) 0x00000004#32) ∧
    ((s.state = .waitingTimeslot ∧ s.resume = .continuousCarrier) →
      exec i s = answers (settled s) 0x00000002#32) ∧
    ((s.state = .disabling ∨ s.state.txFamily = true ∨ s.state.probe = true ∨ s.state = .continuousCarrier) →
      exec i s = answers s 0x00000002#32)

/-- A configuration update deferred by R142 or R143 over a later step that is no reset: nothing is applied while the block stays
out of CfgImmediate, and the step that brings it there applies the value configured at its end. -/
def DeferredUntilIdle {n : Nat} (pending : State → Bool) (hw cfg : State → BitVec n) : Prop :=
  ∀ s t, s.state.cfgImmediate = false → pending s = true → step s = .next t → (∀ rest, s.turns ≠ .reset :: rest) →
    (t.state.cfgImmediate = false → hw t = hw s ∧ pending t = true) ∧
    (t.state.cfgImmediate = true → hw t = cfg t ∧ pending t = false)

/-- The commands that need `S.cs_held = 1`: the CS column of R75, listed in R102 check 4. -/
def needsCriticalSection : Instr → Bool
  | .sleep | .receive | .transmit _ _ | .energyDetection _ | .cca | .continuousCarrier => true
  | .currentState | .notifyBufferFree _ | .channelUpdate | .ccaCfgUpdate => true
  | .irqHandler | .csEnter | .csExit | .cfgSetChannel _ | .cfgSetCca _ => false
  | .evRxStart | .evRxAddrMatch _ | .evRxComplete _ | .evTxComplete | .evAckReceived _ => false
  | .evAckTimeout | .evEdComplete _ | .evCcaComplete _ | .evDisabled | .evTsGrant | .evTsRevoke => false

/-! ## The opcode tables -/

/-- The columns match and mask of R75, in its order. -/
def commandRows : List (Word × Word) :=
  [(0x01000000#32, 0xFFFFFFFF#32), (0x02000000#32, 0xFFFFFFFF#32), (0x03000000#32, 0xFFFFFFFE#32), (0x04000000#32, 0xFFFFFFFF#32),
   (0x05000000#32, 0xFFFFFFFF#32), (0x06000000#32, 0xFFFFFFFF#32), (0x08000000#32, 0xFFFFFFFF#32), (0x09000000#32, 0xFFFFFFFF#32),
   (0x0A000000#32, 0xFFFFFFFF#32), (0x0B000000#32, 0xFFFFFFFF#32), (0x0C000000#32, 0xFFFFFFFF#32), (0x0E000000#32, 0xFFFFFFFF#32),
   (0x0F000000#32, 0xFFFFFFFF#32), (0x10000000#32, 0xFFFFFF00#32), (0x11000000#32, 0xFFFF0000#32)]

/-- The columns match and mask of R79, in its order. -/
def eventRows : List (Word × Word) :=
  [(0x40000000#32, 0xFFFFFFFF#32), (0x41000000#32, 0xFFFFFFFE#32), (0x42000000#32, 0xFFFFFFFE#32), (0x43000000#32, 0xFFFFFFFF#32),
   (0x44000000#32, 0xFFFFFFFE#32), (0x45000000#32, 0xFFFFFFFF#32), (0x46000000#32, 0xFFFFFF00#32), (0x47000000#32, 0xFFFFFFFE#32),
   (0x48000000#32, 0xFFFFFFFF#32), (0x60000000#32, 0xFFFFFFFF#32), (0x61000000#32, 0xFFFFFFFF#32)]

/-- The word is in one of these rows (R75, R79): it agrees with the row's match in every bit of the row's mask. -/
def inRows (rows : List (Word × Word)) (w : Word) : Prop := ∃ r ∈ rows, w &&& r.2 = r.1

/-! ## The two matrices -/

/-- An entry of the legality matrix (R126). -/
inductive Verdict where
  | ok
  | failI
  | failR
  deriving DecidableEq, Repr

/-- The response word of an entry (R126, R82). -/
def Verdict.word : Verdict → Word
  | .ok => 0x00000001#32
  | .failI => 0x00000002#32
  | .failR => 0x00000004#32

/-- The column "ED, CCA, CC" of R126. -/
def probeColumn (st : OpState) (ts : Bool) (rs : Resume) : Verdict :=
  match st, rs with
  | .disabling, _ => .failI
  | .sleep, _ => if ts then .ok else .failR
  | .waitingTimeslot, .receive => if ts then .ok else .failR
  | .waitingTimeslot, .continuousCarrier => .failI
  | .waitingRxFrame, _ | .rxHeader, _ | .rxFrame, _ | .txAck, _ => .ok
  | .ccaBeforeTx, _ | .txFrame, _ | .rxAck, _ => .failI
  | .energyDetection, _ | .cca, _ | .continuousCarrier, _ => .failI

/-- The column SLEEP of R126; `draw` is the answer of `AbortableDraw()`. -/
def sleepColumn (st : OpState) (rs : Resume) (draw : Bool) : Verdict :=
  match st, rs with
  | .waitingTimeslot, .receive => .ok
  | .waitingTimeslot, .continuousCarrier => .failI
  | .waitingRxFrame, _ => .ok
  | .rxHeader, _ => if draw then .ok else .failI
  | .disabling, _ | .sleep, _ | .rxFrame, _ | .txAck, _ => .failI
  | .ccaBeforeTx, _ | .txFrame, _ | .rxAck, _ => .failI
  | .energyDetection, _ | .cca, _ | .continuousCarrier, _ => .failI

/-- The column RECEIVE of R126. -/
def receiveColumn (st : OpState) : Verdict :=
  match st with
  | .sleep | .waitingTimeslot | .waitingRxFrame | .rxHeader | .rxFrame | .txAck | .continuousCarrier => .ok
  | .disabling | .ccaBeforeTx | .txFrame | .rxAck | .energyDetection | .cca => .failI

/-- The entries "ok (no write)" of the column RECEIVE of R126. -/
def alreadyReceiving (s : State) : Bool := s.state.recvFamily && !(s.state == .waitingTimeslot && s.resume == .continuousCarrier)

/-- The column TRANSMIT of R126. -/
def transmitColumn (st : OpState) : Verdict :=
  match st with
  | .waitingTimeslot => .failR
  | .waitingRxFrame | .rxHeader | .rxFrame => .ok
  | .disabling | .sleep | .txAck | .ccaBeforeTx | .txFrame | .rxAck | .energyDetection | .cca | .continuousCarrier => .failI

/-- The legality matrix (R126), `none` for what is no transition request. -/
def legality (i : Instr) (s : State) : Option Verdict :=
  match i with
  | .sleep => some (sleepColumn s.state s.resume s.drawAbortable.1)
  | .receive => some (receiveColumn s.state)
  | .transmit _ _ => some (transmitColumn s.state)
  | .energyDetection _ => some (probeColumn s.state s.tsGranted s.resume)
  | .cca => some (probeColumn s.state s.tsGranted s.resume)
  | .continuousCarrier => some (probeColumn s.state s.tsGranted s.resume)
  | .currentState | .notifyBufferFree _ | .channelUpdate | .ccaCfgUpdate | .irqHandler => none
  | .csEnter | .csExit | .cfgSetChannel _ | .cfgSetCca _ => none
  | .evRxStart | .evRxAddrMatch _ | .evRxComplete _ | .evTxComplete | .evAckReceived _ => none
  | .evAckTimeout | .evEdComplete _ | .evCcaComplete _ | .evDisabled | .evTsGrant | .evTsRevoke => none

/-- An entry of the event matrix (R169): nothing, a new state, or the listening path; with the records put out. -/
inductive EventEntry where
  | dash
  | goes (st : OpState) (outs : List OutRec)
  | listens (outs : List OutRec)
  deriving DecidableEq, Repr

/-- The matrix of R169, row by row; `ackReq` and `frame` are the job's, `buffer` is `S.rx_buffer`. -/
def eventEntry (st : OpState) (i : Instr) (ackReq : Bool) (frame buffer : Handle) : EventEntry :=
  match st, i with
  | .disabling, .evDisabled => .goes .sleep []
  | .waitingRxFrame, .evRxStart => .goes .rxHeader []
  | .rxHeader, .evRxAddrMatch true => .goes .rxFrame []
  | .rxHeader, .evRxAddrMatch false => .goes .waitingRxFrame []
  | .rxFrame, .evRxComplete true => .goes .txAck [.rxDone buffer]
  | .rxFrame, .evRxComplete false => .listens [.rxDone buffer]
  | .txAck, .evTxComplete => .listens []
  | .ccaBeforeTx, .evCcaComplete true => .listens [.txDone .channelBusy frame]
  | .ccaBeforeTx, .evCcaComplete false => .goes .txFrame []
  | .txFrame, .evTxComplete => if ackReq then .goes .rxAck [] else .listens [.txDone .success frame]
  | .rxAck, .evAckReceived true => .listens [.txDone .success frame]
  | .rxAck, .evAckTimeout => .listens [.txDone .noAck frame]
  | .energyDetection, .evEdComplete v => .listens [.edDone v]
  | .cca, .evCcaComplete b => .listens [.ccaDone b]
  | _, _ => .dash

/-- The nine radio events (R212). -/
def isRadioEvent (i : Instr) : Bool := i.isEvent && !(i == .evTsGrant || i == .evTsRevoke)

end Sys2Proof.Safety
end

