-- ==== Sys2Proof/WellFormed.lean ====
section
/-!
DEFINITION. Which instructions are well formed. The operand widths are in the types of Syntax.lean; what is left to check is that
a handle argument names a buffer (spec/30_encoding.md R72, R77).
-/

namespace Sys2Proof

/-- Why an instruction is ill formed. -/
inductive IllFormed where
  /-- TRANSMIT with frame 0 (R77). -/
  | nullFrame
  /-- NOTIFY_BUFFER_FREE with buffer 0 (R77). -/
  | nullBuffer
  deriving DecidableEq, Repr

/-- The check an instruction fails, if any (R77: ENERGY_DETECTION accepts every argument, and no other operand is restricted). -/
def Instr.illFormed : Instr → Option IllFormed
  | .transmit frame _ => if frame = noHandle then some .nullFrame else none
  | .notifyBufferFree buffer => if buffer = noHandle then some .nullBuffer else none
  | .sleep | .receive | .energyDetection _ | .cca | .continuousCarrier => none
  | .currentState | .channelUpdate | .ccaCfgUpdate | .irqHandler | .csEnter | .csExit => none
  | .cfgSetChannel _ | .cfgSetCca _ => none
  | .evRxStart | .evRxAddrMatch _ | .evRxComplete _ | .evTxComplete | .evAckReceived _ => none
  | .evAckTimeout | .evEdComplete _ | .evCcaComplete _ | .evDisabled => none
  | .evTsGrant | .evTsRevoke => none

/-- The instruction passes every check. -/
abbrev Instr.WellFormed (i : Instr) : Prop := i.illFormed = none

end Sys2Proof
end

