-- ==== Sys2Proof/Certificates/Slice0/Obligations.lean ====
section
/-!
DEFINITION. The statements about the model, in the terms of Safety.lean. Where a rule's step ends in `settle()` the statement says
so with `settled`, `applied` or `listening`, which are equal to the state itself wherever R47 holds and nothing is deferred.
-/

open Sys2Proof Sys2Proof.Machine Sys2Proof.Safety

/-! ## Transition requests (spec/41_transition_requests.md) -/

/-- R120: encoding, guards, effect in every state, and how Disabling is completed. -/
def Obligations.SleepRequest : Prop :=
  encode .sleep = [0x01000000#32] ∧ ReservedBitsFault 0x01#8 0 ∧ NeedsCriticalSection .sleep ∧
  (∀ s, s.csHeld = true →
    ((s.state = .waitingTimeslot ∧ s.resume = .receive ∨ s.state = .waitingRxFrame) →
      exec .sleep s =
        answers { s with pendingRx := false, resume := .receive, state := .disabling } 0x00000001#32) ∧
    ((s.state = .rxHeader ∧ s.drawAbortable.1 = true) → ∃ rest n,
      exec .sleep s =
        answers { s with
          abortAnswers := rest, drawIx := n, pendingRx := false, resume := .receive, state := .disabling }
          0x00000001#32) ∧
    ((s.state = .rxHeader ∧ s.drawAbortable.1 = false) → ∃ rest n,
      exec .sleep s = answers { s with abortAnswers := rest, drawIx := n } 0x00000002#32) ∧
    ((s.state = .sleep ∨ s.state = .waitingTimeslot ∧ s.resume = .continuousCarrier) →
      exec .sleep s = answers (settled s) 0x00000002#32) ∧
    ((s.state = .disabling ∨ s.state = .rxFrame ∨ s.state = .txAck ∨ s.state.txFamily = true ∨
        s.state.probe = true ∨ s.state = .continuousCarrier) →
      exec .sleep s = answers s 0x00000002#32)) ∧
  (∀ s, s.state = .disabling →
    exec .evDisabled s = .next (settled { s with state := .sleep }) ∧
    exec .evTsRevoke s = .next (settled { s with tsGranted := false, state := .sleep }))

/-- R121: encoding, guards and effect in every state; `listening` is R104 with the settle that follows. -/
def Obligations.ReceiveRequest : Prop :=
  encode .receive = [0x02000000#32] ∧ ReservedBitsFault 0x02#8 0 ∧ NeedsCriticalSection .receive ∧
  (∀ s, s.csHeld = true →
    ((s.state = .sleep ∨ s.state = .continuousCarrier ∨
        s.state = .waitingTimeslot ∧ s.resume = .continuousCarrier) →
      exec .receive s = answers (listening s) 0x00000001#32) ∧
    ((s.state = .waitingTimeslot ∧ s.resume = .receive ∨ s.state = .waitingRxFrame) →
      exec .receive s = answers (settled s) 0x00000001#32) ∧
    ((s.state = .rxHeader ∨ s.state = .rxFrame ∨ s.state = .txAck) →
      exec .receive s = answers s 0x00000001#32) ∧
    ((s.state = .disabling ∨ s.state.txFamily = true ∨ s.state.probe = true) →
      exec .receive s = answers s 0x00000002#32))

/-- R122: encoding, guards in their order, and effect in every state. -/
def Obligations.TransmitRequest : Prop :=
  (∀ frame, encode (.transmit frame false) = [0x03000000#32, frame] ∧
    encode (.transmit frame true) = [0x03000001#32, frame]) ∧
  ReservedBitsFault 0x03#8 1 ∧
  (∀ c s, exec (.transmit noHandle c) s = faults s 0x07#8) ∧
  (∀ frame c, frame ≠ noHandle → NeedsCriticalSection (.transmit frame c)) ∧
  (∀ frame c s, frame ≠ noHandle → s.csHeld = true →
    ((s.state = .waitingRxFrame ∨ s.state = .rxHeader ∨ s.state = .rxFrame) → ∃ rest n,
      exec (.transmit frame c) s =
        answers { s with
          ackReqAnswers := rest, drawIx := n,
          job := some { frame := frame, cca := c, ackReq := (s.drawAckRequested frame).1 },
          state := if c = true then .ccaBeforeTx else .txFrame }
          0x00000001#32) ∧
    (s.state = .waitingTimeslot → exec (.transmit frame c) s = answers (settled s) 0x00000004#32) ∧
    (s.state = .sleep → exec (.transmit frame c) s = answers (settled s) 0x00000002#32) ∧
    ((s.state = .disabling ∨ s.state = .txAck ∨ s.state.txFamily = true ∨ s.state.probe = true ∨
        s.state = .continuousCarrier) →
      exec (.transmit frame c) s = answers s 0x00000002#32))

/-- R123: encoding, guards and effect in every state; and that the measurement ends in the receive family, never in Sleep. -/
def Obligations.EnergyDetectionRequest : Prop :=
  (∀ t, encode (.energyDetection t) = [0x04000000#32, t]) ∧ ReservedBitsFault 0x04#8 0 ∧
  (∀ t, NeedsCriticalSection (.energyDetection t)) ∧
  (∀ t, ProbeTable (.energyDetection t) .energyDetection fun s => { s with edTime := t }) ∧
  (∀ i s t, s.state = .energyDetection → exec i s = .next t → t.state = .energyDetection ∨ t.state.recvIdle = true)

/-- R124: encoding, guards and effect in every state; and that the assessment ends in the receive family. -/
def Obligations.CcaRequest : Prop :=
  encode .cca = [0x05000000#32] ∧ ReservedBitsFault 0x05#8 0 ∧ NeedsCriticalSection .cca ∧
  (ProbeTable .cca .cca fun s => s) ∧
  (∀ i s t, s.state = .cca → exec i s = .next t → t.state = .cca ∨ t.state.recvIdle = true)

/-- R125: encoding, guards and effect in every state; and that only RECEIVE ends the mode, which a revoke suspends. -/
def Obligations.ContinuousCarrierRequest : Prop :=
  encode .continuousCarrier = [0x06000000#32] ∧ ReservedBitsFault 0x06#8 0 ∧
  NeedsCriticalSection .continuousCarrier ∧ (ProbeTable .continuousCarrier .continuousCarrier fun s => s) ∧
  (∀ i s t, s.state = .continuousCarrier → exec i s = .next t → t.state ≠ .continuousCarrier →
    i = .receive ∨ ((i = .evTsRevoke ∨ i = .irqHandler) ∧ t.state = .waitingTimeslot ∧ t.resume = .continuousCarrier))

/-- R126: inside the critical section every request answers as the matrix says, and where it fails, or is "ok (no write)", it leaves
every register as `settle()` does. -/
def Obligations.RequestLegalityMatrix : Prop :=
  ∀ i s v, legality i s = some v → i.WellFormed → s.csHeld = true →
    ∃ t, exec i s = answers t v.word ∧ t.responses = s.responses ∧
      ((v ≠ .ok ∨ i = .receive ∧ alreadyReceiving s = true) → SameRegisters (settled s) t)

/-! ## Query, notifications, dispatch and guard (spec/42_host_services.md) -/

/-- R140: encoding, guards and answer; nothing is written where no configuration update is due (R47). -/
def Obligations.CurrentStateQuery : Prop :=
  encode .currentState = [0x08000000#32] ∧ ReservedBitsFault 0x08#8 0 ∧ NeedsCriticalSection .currentState ∧
  (∀ s, s.csHeld = true →
    exec .currentState s = answers (settled s) (0x00000001#32 ||| (s.state.code.setWidth 32 <<< 4))) ∧
  (∀ s, (s.state.cfgImmediate = true → s.pendingChannel = false ∧ s.pendingCca = false) → settled s = s) ∧
  (∀ s : State, s.state.code.toNat < 13)

/-- R141: encoding, guards in their order, and effect: the buffer is taken exactly by an idle-armed block. -/
def Obligations.NotifyBufferFree : Prop :=
  (∀ b, encode (.notifyBufferFree b) = [0x09000000#32, b]) ∧ ReservedBitsFault 0x09#8 0 ∧
  (∀ s, exec (.notifyBufferFree noHandle) s = faults s 0x07#8) ∧
  (∀ b, b ≠ noHandle → NeedsCriticalSection (.notifyBufferFree b)) ∧
  (∀ b s, b ≠ noHandle → s.csHeld = true →
    ((s.pendingRx = true ∧ s.state = .waitingTimeslot) →
      exec (.notifyBufferFree b) s =
        answers (applied { s with
          rxBuffer := b, pendingRx := false,
          state := if s.tsGranted = true then .waitingRxFrame else .waitingTimeslot }) 0x00000009#32) ∧
    (¬(s.pendingRx = true ∧ s.state = .waitingTimeslot) →
      exec (.notifyBufferFree b) s = answers (settled s) 0x00000001#32))

/-- R142: encoding, guards and effect: at once in a CfgImmediate state, else deferred until the block is idle again; a second
update changes nothing. -/
def Obligations.ChannelUpdate : Prop :=
  encode .channelUpdate = [0x0A000000#32] ∧ ReservedBitsFault 0x0A#8 0 ∧ NeedsCriticalSection .channelUpdate ∧
  (∀ s, s.csHeld = true →
    (s.state.cfgImmediate = true →
      exec .channelUpdate s =
        answers { s with
          hwChannel := s.cfgChannel, pendingChannel := false,
          hwCca := if s.pendingCca = true then s.cfgCca else s.hwCca, pendingCca := false } 0x00000001#32) ∧
    (s.state.cfgImmediate = false →
      exec .channelUpdate s = answers { s with pendingChannel := true } 0x00000001#32) ∧
    (∀ t, exec .channelUpdate s = .next t → exec .channelUpdate t = answers t 0x00000001#32)) ∧
  DeferredUntilIdle State.pendingChannel State.hwChannel State.cfgChannel

/-- R143: encoding, guards and effect, as R142 with the CCA configuration. -/
def Obligations.CcaCfgUpdate : Prop :=
  encode .ccaCfgUpdate = [0x0B000000#32] ∧ ReservedBitsFault 0x0B#8 0 ∧ NeedsCriticalSection .ccaCfgUpdate ∧
  (∀ s, s.csHeld = true →
    (s.state.cfgImmediate = true →
      exec .ccaCfgUpdate s =
        answers { s with
          hwChannel := if s.pendingChannel = true then s.cfgChannel else s.hwChannel, pendingChannel := false,
          hwCca := s.cfgCca, pendingCca := false } 0x00000001#32) ∧
    (s.state.cfgImmediate = false →
      exec .ccaCfgUpdate s = answers { s with pendingCca := true } 0x00000001#32) ∧
    (∀ t, exec .ccaCfgUpdate s = .next t → exec .ccaCfgUpdate t = answers t 0x00000001#32)) ∧
  DeferredUntilIdle State.pendingCca State.hwCca State.cfgCca

/-- R144: encoding, guards in their order, and effect: the event at the head is performed as its dispatch would, and an empty queue
is harmless. -/
def Obligations.IrqHandlerDispatchesOneEvent : Prop :=
  encode .irqHandler = [0x0C000000#32] ∧
  (∀ w a s, s.fault = 0#8 → opcodeOf w = 0x0C#8 →
    (reservedAbove 0 w ≠ 0#24 ∨ s.params.irqDispatch = .autonomous) → hostStep w a s = faults s 0x01#8) ∧
  (∀ s, s.params.irqDispatch = .autonomous → exec .irqHandler s = faults s 0x01#8) ∧
  (∀ s, s.params.irqDispatch = .hostCalled → s.csHeld = true → exec .irqHandler s = faults s 0x05#8) ∧
  (∀ s, s.params.irqDispatch = .hostCalled → s.csHeld = false →
    (s.evq = [] → exec .irqHandler s = answers (settled s) 0x00000001#32) ∧
    (∀ e rest i, s.evq = e :: rest → decodeEv e = .ok i →
      ∃ t, exec i { s with evq := rest } = .next t ∧ exec .irqHandler s = answers t 0x00000001#32))

/-- R145: encoding, guard, effect, and what it does to the other agents. -/
def Obligations.CsEnterGuard : Prop :=
  encode .csEnter = [0x0E000000#32] ∧ ReservedBitsFault 0x0E#8 0 ∧
  (∀ s, s.csHeld = true → exec .csEnter s = faults s 0x03#8) ∧
  (∀ s, s.csHeld = false → exec .csEnter s = answers (settled { s with csHeld := true }) 0x00000001#32) ∧
  (∀ s : State, s.csHeld = true → s.dispatchEnabled = false) ∧
  (∀ s e, s.csHeld = true → s.fault = 0#8 → isEventWord e = true → s.queueFull = false →
    deliveryStep e s = .next { s with evq := s.evq ++ [e] })

/-- R146: encoding, guard, effect, and that dispatch is enabled again. -/
def Obligations.CsExitGuard : Prop :=
  encode .csExit = [0x0F000000#32] ∧ ReservedBitsFault 0x0F#8 0 ∧
  (∀ s, s.csHeld = false → exec .csExit s = faults s 0x04#8) ∧
  (∀ s, s.csHeld = true → exec .csExit s = answers (settled { s with csHeld := false }) 0x00000001#32) ∧
  (∀ s t, s.csHeld = true → s.fault = 0#8 → s.params.irqDispatch = .autonomous → exec .csExit s = .next t →
    t.evq = s.evq ∧ (t.dispatchEnabled = true ↔ s.evq ≠ []))

/-- R147: encoding, illegal bits, and effect with no condition on the critical section. -/
def Obligations.CfgSetChannelWritesConfiguration : Prop :=
  (∀ ch, encode (.cfgSetChannel ch) = [0x10000000#32 ||| ch.setWidth 32]) ∧ ReservedBitsFault 0x10#8 8 ∧
  (∀ ch s, exec (.cfgSetChannel ch) s = answers (settled { s with cfgChannel := ch }) 0x00000001#32)

/-- R148: encoding, illegal bits, and effect with no condition on the critical section. -/
def Obligations.CfgSetCcaWritesConfiguration : Prop :=
  (∀ cfg, encode (.cfgSetCca cfg) = [0x11000000#32 ||| cfg.setWidth 32]) ∧ ReservedBitsFault 0x11#8 16 ∧
  (∀ cfg s, exec (.cfgSetCca cfg) s = answers (settled { s with cfgCca := cfg }) 0x00000001#32)

/-! ## Radio events (spec/43_radio_events.md) -/

/-- R160. -/
def Obligations.RxStartEvent : Prop :=
  encode .evRxStart = [0x40000000#32] ∧
  (∀ s, s.state = .waitingRxFrame → exec .evRxStart s = .next { s with state := .rxHeader }) ∧
  (∀ s, s.state ≠ .waitingRxFrame → exec .evRxStart s = .next (settled s))

/-- R161. -/
def Obligations.RxAddrMatchEvent : Prop :=
  encode (.evRxAddrMatch false) = [0x41000000#32] ∧ encode (.evRxAddrMatch true) = [0x41000001#32] ∧
  (∀ s, s.state = .rxHeader → exec (.evRxAddrMatch true) s = .next { s with state := .rxFrame }) ∧
  (∀ s, s.state = .rxHeader → exec (.evRxAddrMatch false) s = .next (applied { s with state := .waitingRxFrame })) ∧
  (∀ s f, s.state ≠ .rxHeader → exec (.evRxAddrMatch f) s = .next (settled s))

/-- R162. -/
def Obligations.RxCompleteEvent : Prop :=
  encode (.evRxComplete false) = [0x42000000#32] ∧ encode (.evRxComplete true) = [0x42000001#32] ∧
  (∀ s, s.state = .rxFrame →
    exec (.evRxComplete true) s =
      .next { s with outLog := s.outLog ++ [.rxDone s.rxBuffer], rxBuffer := noHandle, state := .txAck }) ∧
  (∀ s, s.state = .rxFrame →
    exec (.evRxComplete false) s =
      .next (listening { s with outLog := s.outLog ++ [.rxDone s.rxBuffer], rxBuffer := noHandle })) ∧
  (∀ s f, s.state ≠ .rxFrame → exec (.evRxComplete f) s = .next (settled s))

/-- R163. -/
def Obligations.TxCompleteEvent : Prop :=
  encode .evTxComplete = [0x43000000#32] ∧
  (∀ s, s.state = .txFrame → s.jobAckReq = true → exec .evTxComplete s = .next { s with state := .rxAck }) ∧
  (∀ s, s.state = .txFrame → s.jobAckReq = false → exec .evTxComplete s = .next (jobEnded .success s)) ∧
  (∀ s, s.state = .txAck → exec .evTxComplete s = .next (listening s)) ∧
  (∀ s, s.state ≠ .txFrame → s.state ≠ .txAck → exec .evTxComplete s = .next (settled s))

/-- R164. -/
def Obligations.AckReceivedEvent : Prop :=
  encode (.evAckReceived false) = [0x44000000#32] ∧ encode (.evAckReceived true) = [0x44000001#32] ∧
  (∀ s, s.state = .rxAck → exec (.evAckReceived true) s = .next (jobEnded .success s)) ∧
  (∀ s, s.state = .rxAck → exec (.evAckReceived false) s = .next s) ∧
  (∀ s f, s.state ≠ .rxAck → exec (.evAckReceived f) s = .next (settled s))

/-- R165; the last clause is its corner case, that a second event of the pair is a no-op. -/
def Obligations.AckTimeoutEvent : Prop :=
  encode .evAckTimeout = [0x45000000#32] ∧
  (∀ s, s.state = .rxAck → exec .evAckTimeout s = .next (jobEnded .noAck s)) ∧
  (∀ s, s.state ≠ .rxAck → exec .evAckTimeout s = .next (settled s)) ∧
  (∀ s, s.state = .rxAck → ∃ t u,
    exec .evAckTimeout s = .next t ∧ exec (.evAckReceived true) t = .next t ∧
    exec (.evAckReceived true) s = .next u ∧ exec .evAckTimeout u = .next u)

/-- R166. -/
def Obligations.EdCompleteEvent : Prop :=
  (∀ v, encode (.evEdComplete v) = [0x46000000#32 ||| v.setWidth 32]) ∧
  (∀ v s, s.state = .energyDetection →
    exec (.evEdComplete v) s = .next (listening { s with outLog := s.outLog ++ [.edDone v] })) ∧
  (∀ v s, s.state ≠ .energyDetection → exec (.evEdComplete v) s = .next (settled s))

/-- R167. -/
def Obligations.CcaCompleteEvent : Prop :=
  encode (.evCcaComplete false) = [0x47000000#32] ∧ encode (.evCcaComplete true) = [0x47000001#32] ∧
  (∀ s, s.state = .ccaBeforeTx → exec (.evCcaComplete true) s = .next (jobEnded .channelBusy s)) ∧
  (∀ s, s.state = .ccaBeforeTx → exec (.evCcaComplete false) s = .next { s with state := .txFrame }) ∧
  (∀ s b, s.state = .cca →
    exec (.evCcaComplete b) s = .next (listening { s with outLog := s.outLog ++ [.ccaDone b] })) ∧
  (∀ s b, s.state ≠ .ccaBeforeTx → s.state ≠ .cca → exec (.evCcaComplete b) s = .next (settled s))

/-- R168; and that no transition request succeeds in Disabling. -/
def Obligations.DisabledEvent : Prop :=
  encode .evDisabled = [0x48000000#32] ∧
  (∀ s, s.state = .disabling → exec .evDisabled s = .next (applied { s with state := .sleep })) ∧
  (∀ s, s.state ≠ .disabling → exec .evDisabled s = .next (settled s)) ∧
  (∀ i s v, s.state = .disabling → legality i s = some v → i.WellFormed → s.csHeld = true →
    exec i s = answers s 0x00000002#32)

/-- R169: every radio event, in every state, does what its entry of the matrix says. -/
def Obligations.RadioEventMatrix : Prop :=
  ∀ i s, isRadioEvent i = true →
    match eventEntry s.state i s.jobAckReq s.jobFrame s.rxBuffer with
    | .dash => exec i s = .next (settled s)
    | .goes st outs => ∃ t, exec i s = .next t ∧ t.state = st ∧ t.outLog = s.outLog ++ outs ∧ t.job = s.job
    | .listens outs => ∃ t, exec i s = .next t ∧ t.outLog = s.outLog ++ outs ∧
        t.state = (if t.rxBuffer ≠ noHandle ∧ s.tsGranted = true then .waitingRxFrame else .waitingTimeslot) ∧
        t.pendingRx = (t.rxBuffer == noHandle) ∧ t.resume = .receive ∧
        t.job = (if s.state.txFamily = true then none else s.job)

/-! ## Arbiter events and the need output (spec/44_arbiter_events.md) -/

/-- R180. -/
def Obligations.TimeslotGrantEvent : Prop :=
  encode .evTsGrant = [0x60000000#32] ∧
  (∀ s, s.state = .waitingTimeslot → s.resume = .continuousCarrier →
    exec .evTsGrant s = .next { s with tsGranted := true, resume := .receive, state := .continuousCarrier }) ∧
  (∀ s, s.state = .waitingTimeslot → s.resume = .receive → s.pendingRx = false →
    exec .evTsGrant s = .next (listening { s with tsGranted := true })) ∧
  (∀ s, s.state = .waitingTimeslot → s.resume = .receive → s.pendingRx = false → s.rxBuffer ≠ noHandle →
    exec .evTsGrant s = .next (applied { s with tsGranted := true, state := .waitingRxFrame })) ∧
  (∀ s, s.state = .waitingTimeslot → s.resume = .receive → s.pendingRx = true →
    exec .evTsGrant s = .next (settled { s with tsGranted := true })) ∧
  (∀ s, s.state ≠ .waitingTimeslot → exec .evTsGrant s = .next (settled { s with tsGranted := true }))

/-- R181; every job, reception and probe cut short lands in WaitingTimeslot. -/
def Obligations.TimeslotRevokeEvent : Prop :=
  encode .evTsRevoke = [0x61000000#32] ∧
  (∀ s, s.state = .disabling →
    exec .evTsRevoke s = .next (applied { s with tsGranted := false, state := .sleep })) ∧
  (∀ s, (s.state = .sleep ∨ s.state = .waitingTimeslot) →
    exec .evTsRevoke s = .next (settled { s with tsGranted := false })) ∧
  (∀ s, (s.state = .waitingRxFrame ∨ s.state = .rxHeader ∨ s.state = .rxFrame ∨ s.state = .txAck) →
    exec .evTsRevoke s = .next (listening { s with tsGranted := false })) ∧
  (∀ s, s.state.txFamily = true → exec .evTsRevoke s = .next (jobEnded .aborted { s with tsGranted := false })) ∧
  (∀ s, s.state = .energyDetection →
    exec .evTsRevoke s = .next (listening { s with tsGranted := false, outLog := s.outLog ++ [.edAborted] })) ∧
  (∀ s, s.state = .cca →
    exec .evTsRevoke s = .next (listening { s with tsGranted := false, outLog := s.outLog ++ [.ccaAborted] })) ∧
  (∀ s, s.state = .continuousCarrier →
    exec .evTsRevoke s =
      .next (applied { s with tsGranted := false, resume := .continuousCarrier, state := .waitingTimeslot })) ∧
  (∀ s t, s.state.active = true → exec .evTsRevoke s = .next t → t.state = .waitingTimeslot)

/-- R182: the level per state, by its code (R22, R86); it is a function of `S.state` alone, and 0 after reset. -/
def Obligations.NeedOutput : Prop :=
  (∀ s : State, s.need.code =
    if s.state.code.toNat < 2 then 0#2
    else if s.state.code.toNat < 6 ∨ s.state.code.toNat = 10 ∨ s.state.code.toNat = 11 then 1#2
    else 2#2) ∧
  (∀ s : State, s.resetStep.need.code = 0#2)

/-! ## Encoding (spec/30_encoding.md) -/

/-- R87, both ways: the decoder answers an instruction exactly for its own words, so no word has two meanings and no bit is
dropped; and every other word faults. -/
def Obligations.CommandDecoderExact : Prop :=
  (∀ mode w a i, decodeCmd mode w a = .ok i ↔
    i.isEvent = false ∧ (i = .irqHandler → mode = .hostCalled) ∧ i.word = w ∧ (∀ x, i.argument = some x → x = a)) ∧
  (∀ w a s, s.fault = 0#8 → (∀ i, decodeCmd s.params.irqDispatch w a ≠ .ok i) → hostStep w a s = faults s 0x01#8)

/-- R88, both ways; and every other word faults. -/
def Obligations.EventDecoderExact : Prop :=
  (∀ e i, decodeEv e = .ok i ↔ i.isEvent = true ∧ i.word = e) ∧
  (∀ e s, s.fault = 0#8 → (∀ i, decodeEv e ≠ .ok i) → deliveryStep e s = faults s 0x01#8)

/-- R75 and R79 as mask and match: a word decodes exactly if it is in a row, and in no two rows. -/
def Obligations.OpcodeTableRows : Prop :=
  (∀ w a, (∃ i, decodeCmd .hostCalled w a = .ok i) ↔ inRows commandRows w) ∧
  (∀ e, isEventWord e = true ↔ inRows eventRows e) ∧
  (commandRows ++ eventRows).Pairwise fun r q => r.1 &&& q.2 ≠ q.1 ∧ q.1 &&& r.2 ≠ r.1

/-- Decode after encode over a byte string, with whatever follows (R53, R54, R74). -/
def Obligations.ByteStreamRoundTrip : Prop :=
  ∀ mode i rest, (i = .irqHandler → mode = .hostCalled) →
    decodeBytes mode (encodeBytes i ++ rest) = .ok (i, rest)

/-- Words of the spec's own decode vectors (95_test_vectors.md 2.1, 2.2), read by the decoders. -/
def Obligations.DecodeVectors : Prop :=
  decodeCmd .autonomous 0x03000001#32 0x00001000#32 = .ok (.transmit 0x00001000#32 true) ∧
  decodeCmd .autonomous 0x04000000#32 0xFFFFFFFF#32 = .ok (.energyDetection 0xFFFFFFFF#32) ∧
  decodeCmd .autonomous 0x100000FF#32 0#32 = .ok (.cfgSetChannel 0xFF#8) ∧
  decodeCmd .autonomous 0x1100FFFF#32 0#32 = .ok (.cfgSetCca 0xFFFF#16) ∧
  decodeCmd .autonomous 0x03000002#32 0x00001000#32 = .error .reservedBits ∧
  decodeCmd .autonomous 0x07000000#32 0#32 = .error .reservedOpcode ∧
  decodeCmd .autonomous 0x0C000000#32 0#32 = .error .dispatchNotHost ∧
  decodeEv 0x460000FF#32 = .ok (.evEdComplete 0xFF#8) ∧
  decodeEv 0x41000001#32 = .ok (.evRxAddrMatch true) ∧
  decodeEv 0x61000001#32 = .error .reservedBits

/-- The response words of R82 and the output words of R84, written out. -/
def Obligations.PortWords : Prop :=
  respOk = 0x00000001#32 ∧ respTaken = 0x00000009#32 ∧
  respFail .illegalState = 0x00000002#32 ∧ respFail .resourceUnavailable = 0x00000004#32 ∧
  (∀ st : OpState, respState st = 0x00000001#32 ||| (st.code.setWidth 32 <<< 4)) ∧
  (∀ f, (OutRec.txDone .success f).words = [0x80000000#32, f] ∧
    (OutRec.txDone .channelBusy f).words = [0x80000001#32, f] ∧
    (OutRec.txDone .noAck f).words = [0x80000002#32, f] ∧ (OutRec.txDone .aborted f).words = [0x80000003#32, f]) ∧
  (∀ b, (OutRec.rxDone b).words = [0x81000000#32, b]) ∧
  (∀ v, (OutRec.edDone v).words = [0x82000000#32 ||| v.setWidth 32]) ∧
  OutRec.edAborted.words = [0x83000000#32] ∧ OutRec.ccaAborted.words = [0x85000000#32] ∧
  (OutRec.ccaDone false).words = [0x84000000#32] ∧ (OutRec.ccaDone true).words = [0x84000001#32]

/-! ## Steps, faults and reset (spec/40_common_procedures.md, 60_exceptions.md, 70_reset_and_hazards.md) -/

/-- A step whose turn is the host's runs the command its words decode to. -/
def Obligations.StepRunsDecodedCommand : Prop :=
  ∀ s w a rest i, s.turns = .host w a :: rest → s.fault = 0#8 → decodeCmd s.params.irqDispatch w a = .ok i →
    step s = exec i { s with turns := rest }

/-- R101: where it enables a dispatch step, the dispatcher's step takes the head off the queue and runs the event it decodes to;
where it does not, every register and the queue stay. That a turn that is not enabled is passed over, and that with no turn left the
dispatcher has the step, are the model's choices (logs 1 and 2). -/
def Obligations.StepRunsDispatchedEvent : Prop :=
  ∀ s : State,
    (∀ e rest i, s.fault = 0#8 → s.csHeld = false → s.params.irqDispatch = .autonomous → s.evq = e :: rest →
      decodeEv e = .ok i →
      (∀ later, s.turns = .dispatcher :: later → step s = exec i { s with turns := later, evq := rest }) ∧
      (s.turns = [] → step s = exec i { s with evq := rest })) ∧
    ((s.fault ≠ 0#8 ∨ s.csHeld = true ∨ s.evq = [] ∨ s.params.irqDispatch = .hostCalled) →
      (∀ later, s.turns = .dispatcher :: later → step s = .next { s with turns := later }) ∧
      (s.turns = [] → step s = .next s))

/-- R210: a delivery by either source appends the word, or faults, the encoding checked first. -/
def Obligations.DeliveryAppendsOrFaults : Prop :=
  ∀ s e rest, (s.turns = .radio e :: rest ∨ s.turns = .arbiter e :: rest) → s.fault = 0#8 →
    ((∀ i, decodeEv e ≠ .ok i) → step s = faults { s with turns := rest } 0x01#8) ∧
    ((∃ i, decodeEv e = .ok i) → s.params.evqDepth.capacity = some s.evq.length →
      step s = faults { s with turns := rest } 0x06#8) ∧
    ((∃ i, decodeEv e = .ok i) → s.params.evqDepth.capacity ≠ some s.evq.length →
      step s = .next { s with turns := rest, evq := s.evq ++ [e] })

/-- R200: while a fault stands only reset does anything, and reset clears it. A turn that is not enabled is passed over, and with
no turn left the block stays (the model's choices, logs 1 and 2). -/
def Obligations.FaultedBlockOnlyResets : Prop :=
  ∀ s, s.fault ≠ 0#8 →
    (∀ u rest, s.turns = u :: rest → u ≠ .reset → step s = .next { s with turns := rest }) ∧
    (s.turns = [] → step s = .next s) ∧
    (∀ rest, s.turns = .reset :: rest → ∃ t, step s = .next t ∧ t.fault = 0#8)

/-- R200, R202: a step that faults writes `S.fault`, a code of R201, and nothing else, and gives no response. -/
def Obligations.FaultIsPrecise : Prop :=
  ∀ s t, s.fault = 0#8 → step s = .next t → t.fault ≠ 0#8 →
    t = { s with fault := t.fault, turns := s.turns.tail } ∧ t.fault.toNat ≤ 7

/-- R102: the checks of a command step in their order, and that a command which passes them answers once and does not fault. The
first clause, that a command turn is passed over while a fault stands, is the model's choice for a step that check 1 does not enable
(log 1). -/
def Obligations.CommandStepChecks : Prop :=
  ∀ s w a, (s.fault ≠ 0#8 → hostStep w a s = .next s) ∧
    (s.fault = 0#8 →
      ((∀ i, decodeCmd s.params.irqDispatch w a ≠ .ok i) → hostStep w a s = faults s 0x01#8) ∧
      (∀ i, decodeCmd s.params.irqDispatch w a = .ok i →
        (¬ i.WellFormed → hostStep w a s = faults s 0x07#8) ∧
        (i.WellFormed → needsCriticalSection i = true → s.csHeld = false → hostStep w a s = faults s 0x02#8) ∧
        (i = .csEnter → s.csHeld = true → hostStep w a s = faults s 0x03#8) ∧
        (i = .csExit → s.csHeld = false → hostStep w a s = faults s 0x04#8) ∧
        (i = .irqHandler → s.csHeld = true → hostStep w a s = faults s 0x05#8) ∧
        (i.WellFormed → (needsCriticalSection i = true → s.csHeld = true) → (i = .csEnter → s.csHeld = false) →
          (i = .csExit → s.csHeld = true) → (i = .irqHandler → s.csHeld = false) →
          (∀ e ∈ s.evq, isEventWord e = true) →
          ∃ t r, hostStep w a s = .next t ∧ t.fault = 0#8 ∧ t.responses = s.responses ++ [r] ∧
            (t.state.cfgImmediate = true → t.pendingChannel = false ∧ t.pendingCca = false))))

/-- R230 with the table of R41: reset, at any time, sets every register; it gives no response and puts nothing out. That responses
already given stay is the model's choice (log 9). -/
def Obligations.ResetSetsEveryRegister : Prop :=
  ∀ s rest, s.turns = .reset :: rest → ∃ t, step s = .next t ∧
    t.state = .sleep ∧ t.tsGranted = false ∧ t.rxBuffer = noHandle ∧ t.pendingRx = false ∧ t.resume = .receive ∧
    t.job = none ∧ t.cfgChannel = s.params.channelReset ∧ t.hwChannel = s.params.channelReset ∧
    t.pendingChannel = false ∧ t.cfgCca = s.params.ccaReset ∧ t.hwCca = s.params.ccaReset ∧ t.pendingCca = false ∧
    t.csHeld = false ∧ t.evq = [] ∧ t.fault = 0#8 ∧ t.outLog = [] ∧ t.edTime = 0#32 ∧
    t.responses = s.responses ∧ t.params = s.params ∧ t.turns = rest

/-! ## Invariants and whole-machine rules -/

/-- Every run starts in a state that meets the invariants. -/
def Obligations.StartMeetsInvariants : Prop :=
  BlockInv State.reset ∧ ∀ p turns pool abort ackReq, BlockInv (started p turns pool abort ackReq)

/-- Every step, of every agent, from any state that meets the invariants, keeps them. -/
def Obligations.EveryStepKeepsInvariants : Prop :=
  ∀ s t, BlockInv s → step s = .next t → BlockInv t

/-- R42 to R48 of every state that some run from reset reaches. -/
def Obligations.ReachableStatesMeetInvariants : Prop :=
  ∀ s, Reachable s →
    (s.job.isSome = true ↔ s.state.txFamily = true) ∧
    (s.state.active = true → s.tsGranted = true) ∧
    ((s.state = .waitingRxFrame ∨ s.state = .rxHeader ∨ s.state = .rxFrame) → s.rxBuffer ≠ noHandle) ∧
    (s.pendingRx = true → s.state = .waitingTimeslot ∧ s.rxBuffer = noHandle) ∧
    (s.state = .waitingTimeslot → s.resume = .receive → (s.pendingRx = true ↔ s.rxBuffer = noHandle)) ∧
    (s.resume = .continuousCarrier → s.state = .waitingTimeslot ∧ s.tsGranted = false) ∧
    (s.state.cfgImmediate = true → s.pendingChannel = false ∧ s.pendingCca = false) ∧
    (s.state = .waitingTimeslot → s.tsGranted = true → s.pendingRx = true)

/-- R108, R216: every queued word of a reachable state decodes, and no step of a run from reset stops. -/
def Obligations.ReachableStatesNeverStop : Prop :=
  ∀ s, Reachable s → (∀ e ∈ s.evq, ∃ i, decodeEv e = .ok i) ∧ ∃ t, step s = .next t

/-- Ownership (R52, R106, R243): over any step but a reset, a job either goes on and no TX_DONE is put out, or it ends with exactly
one TX_DONE, which names its frame; without a job none is put out. -/
def Obligations.FrameReturnedExactlyOnce : Prop :=
  ∀ s t, BlockInv s → step s = .next t → (∀ rest, s.turns ≠ .reset :: rest) →
    ∃ outs, t.outLog = s.outLog ++ outs ∧
      (s.job = none → ∀ o f, OutRec.txDone o f ∉ outs) ∧
      (∀ j, s.job = some j →
        (t.job = some j ∧ ∀ o f, OutRec.txDone o f ∉ outs) ∨ (t.job = none ∧ ∃ o, outs = [OutRec.txDone o j.frame]))

/-- R244: over any step but a reset, the receive buffer the block holds is given up only in an RX_DONE, which names it. -/
def Obligations.ReceiveBufferGivenUpInRxDone : Prop :=
  ∀ s t, BlockInv s → step s = .next t → (∀ rest, s.turns ≠ .reset :: rest) →
    ∃ outs, t.outLog = s.outLog ++ outs ∧ (∀ b, OutRec.rxDone b ∈ outs → b = s.rxBuffer ∧ b ≠ noHandle) ∧
      (s.rxBuffer ≠ noHandle → t.rxBuffer ≠ s.rxBuffer → OutRec.rxDone s.rxBuffer ∈ outs)

/-- R103: a request that fails writes no register; the only other answer is success. -/
def Obligations.FailedRequestWritesNothing : Prop :=
  ∀ i s t v, BlockInv s → legality i s = some v → i.WellFormed → s.csHeld = true → exec i s = .next t →
    (t.responses = s.responses ++ [0x00000001#32] ∧ v = .ok) ∨
      ((t.responses = s.responses ++ [0x00000002#32] ∨ t.responses = s.responses ++ [0x00000004#32]) ∧ v ≠ .ok ∧
        SameRegisters s t)

/-- Which instructions write which registers (R25, R31 to R33, R37, R40). IRQ_HANDLER writes what the event it performs writes. -/
def Obligations.RegisterWriters : Prop :=
  ∀ i s t, exec i s = .next t →
    (t.tsGranted ≠ s.tsGranted → i = .evTsGrant ∨ i = .evTsRevoke ∨ i = .irqHandler) ∧
    (t.csHeld ≠ s.csHeld → i = .csEnter ∨ i = .csExit) ∧
    (t.cfgChannel ≠ s.cfgChannel → ∃ ch, i = .cfgSetChannel ch) ∧
    (t.cfgCca ≠ s.cfgCca → ∃ cfg, i = .cfgSetCca cfg) ∧
    (t.edTime ≠ s.edTime → ∃ d, i = .energyDetection d) ∧
    (t.evq ≠ s.evq → i = .irqHandler) ∧
    (t.responses ≠ s.responses → i.isEvent = false) ∧
    t.params = s.params ∧ t.turns = s.turns

/-- R211, R213: over any step but a reset the queue is as it was, or a delivery put its word at the tail, or a dispatch step or
IRQ_HANDLER took the head off, outside the critical section and with no fault standing. That the dispatcher has the step with no
turn left is the model's choice (log 2). -/
def Obligations.EventQueueIsFifo : Prop :=
  ∀ s t, step s = .next t → (∀ rest, s.turns ≠ .reset :: rest) →
    t.evq = s.evq ∨ (∃ e rest, (s.turns = .radio e :: rest ∨ s.turns = .arbiter e :: rest) ∧ t.evq = s.evq ++ [e]) ∨
      (s.fault = 0#8 ∧ s.csHeld = false ∧ (∃ e, s.evq = e :: t.evq) ∧
        (s.params.irqDispatch = .autonomous ∧ (s.turns = [] ∨ ∃ rest, s.turns = .dispatcher :: rest) ∨
          s.params.irqDispatch = .hostCalled ∧ ∃ a rest, s.turns = .host 0x0C000000#32 a :: rest))

/-- R61, R101, R213: while the critical section is held, a step that is not a command and not a reset writes nothing, unless it is a
delivery: that puts its word at the tail of the queue, or faults with a code of R210 and leaves the queue. Nothing is dispatched. -/
def Obligations.CriticalSectionMasksDispatch : Prop :=
  ∀ s t, s.csHeld = true → step s = .next t → (∀ w a rest, s.turns ≠ .host w a :: rest) →
    (∀ rest, s.turns ≠ .reset :: rest) →
    t = { s with turns := s.turns.tail } ∨
      ∃ e rest, (s.turns = .radio e :: rest ∨ s.turns = .arbiter e :: rest) ∧
        (t = { s with turns := rest, evq := s.evq ++ [e] } ∨ t = { s with turns := rest, fault := 0x01#8 } ∨
          t = { s with turns := rest, fault := 0x06#8 })

/-- R107, R31, R32, R247: over any step but a reset, a hardware configuration register changes only to the value configured at the
end of the step, in a CfgImmediate state, its deferral cleared; and in no other state is a deferred update lost. -/
def Obligations.ConfigurationAppliedOnlyWhenIdle : Prop :=
  ∀ s t, step s = .next t → (∀ rest, s.turns ≠ .reset :: rest) →
    (t.hwChannel ≠ s.hwChannel →
      t.state.cfgImmediate = true ∧ t.hwChannel = t.cfgChannel ∧ t.pendingChannel = false) ∧
    (t.hwCca ≠ s.hwCca → t.state.cfgImmediate = true ∧ t.hwCca = t.cfgCca ∧ t.pendingCca = false) ∧
    (s.pendingChannel = true → t.pendingChannel = false → t.hwChannel = t.cfgChannel) ∧
    (s.pendingCca = true → t.pendingCca = false → t.hwCca = t.cfgCca) ∧
    (t.state.cfgImmediate = false → (s.pendingChannel = true → t.pendingChannel = true) ∧
      (s.pendingCca = true → t.pendingCca = true))

/-- The two ways of dispatch agree (R101, R144): from the same registers, IRQ_HANDLER of a host-dispatched block leaves what the
dispatch step of a self-dispatching block leaves, and its response. -/
def Obligations.HostCalledDispatchAgrees : Prop :=
  ∀ (s : State) (p q : Params) (a : Word), p.irqDispatch = .autonomous → q.irqDispatch = .hostCalled → s.fault = 0#8 → s.csHeld = false →
    (∀ e ∈ s.evq, isEventWord e = true) → s.evq ≠ [] →
    ∃ t, dispatchStep { s with params := p } = .next t ∧
      hostStep 0x0C000000#32 a { s with params := q } =
        .next { t with params := q, responses := t.responses ++ [0x00000001#32] }

/-- With no other agent to move, the dispatcher empties the queue in as many steps as it holds events (R252; that it has the turn is
the model's choice, log 2). -/
def Obligations.DispatcherDrainsQueue : Prop :=
  ∀ s, BlockInv s → s.fault = 0#8 → s.csHeld = false → s.params.irqDispatch = .autonomous → s.turns = [] →
    ∃ t, Host.Core.run Sys2Proof.core s.evq.length s = .next t ∧ t.evq = [] ∧ t.fault = 0#8

/-- R36: over any step but a reset, output records are only ever appended. The second half, that responses are kept in a list that
only grows, is the model's choice (log 9). -/
def Obligations.OutputsOnlyGrow : Prop :=
  ∀ s t, step s = .next t → (∀ rest, s.turns ≠ .reset :: rest) →
    s.outLog <+: t.outLog ∧ s.responses <+: t.responses

/-- R225: how Sleep is left and entered, and how Disabling is left and entered. -/
def Obligations.PowerStateTransitions : Prop :=
  ∀ i s t, exec i s = .next t →
    (s.state = .sleep → t.state ≠ .sleep →
      i = .receive ∨ (s.tsGranted = true ∧ (i = .cca ∨ i = .continuousCarrier ∨ ∃ d, i = .energyDetection d))) ∧
    (s.state = .disabling → t.state ≠ .disabling →
      t.state = .sleep ∧ (i = .evDisabled ∨ i = .evTsRevoke ∨ i = .irqHandler)) ∧
    (s.state ≠ .disabling → t.state = .disabling → i = .sleep) ∧
    (s.state ≠ .sleep → t.state = .sleep → s.state = .disabling)

/-- OTRS's deferred-intent replay (95_test_vectors.md X4) from every state it applies to: RECEIVE with no buffer waits idle-armed,
and NOTIFY_BUFFER_FREE then enters WaitingRxFrame without a further request. -/
def Obligations.DeferredReceiveReplay : Prop :=
  ∀ s b rest, s.state = .sleep → s.csHeld = true → s.tsGranted = true → s.rxBuffer = noHandle →
    s.poolAnswers = noHandle :: rest → b ≠ noHandle →
    ∃ t u, exec .receive s = .next t ∧ t.idleArmed = true ∧ exec (.notifyBufferFree b) t = .next u ∧
      u.state = .waitingRxFrame ∧ u.rxBuffer = b ∧ u.pendingRx = false ∧
      u.responses = s.responses ++ [0x00000001#32, 0x00000009#32]

/-- OTRS's scenario 4 (95_test_vectors.md X8) from every state it applies to: a carrier suspended by a revoke resumes at the next
grant. -/
def Obligations.CarrierResumesAfterRevoke : Prop :=
  ∀ s, s.state = .continuousCarrier → s.pendingRx = false →
    ∃ t u, exec .evTsRevoke s = .next t ∧ t.state = .waitingTimeslot ∧ t.resume = .continuousCarrier ∧
      exec .evTsGrant t = .next u ∧ u.state = .continuousCarrier ∧ u.resume = .receive ∧ u.tsGranted = true ∧
      u.outLog = s.outLog ∧ u.rxBuffer = s.rxBuffer

/-- In a state that waits for the radio (R253), any of the events the radio owes takes the block to another state, by the rule of
that event (R163 to R168). It need not end the procedure: a job goes on from CcaBeforeTx to TxFrame and from TxFrame to RxAck. -/
def Obligations.OwedEventMovesBlockOn : Prop :=
  ∀ s i, i ∈ owed s.state → ∃ t, exec i s = .next t ∧ t.state ≠ s.state
end

