-- ==== Sys2Proof/Laws/Decode.lean ====
section
/-!
SUPPORT. The fields of a word built from an opcode and a payload, and the reading of a word back from its fields: what the
round-trip statements need of spec/30_encoding.md R71 to R73 and R80, and of the byte order (R53).
-/

namespace Sys2Proof

/-- A word read as its opcode and its payload (R71). -/
theorem word_split (w : Word) : w = opcodeOf w ++ w.extractLsb' 0 24 := by
  apply BitVec.eq_of_getLsbD_eq
  intro i hi
  simp only [opcodeOf, BitVec.getLsbD_append, BitVec.getLsbD_extractLsb']
  split
  · simp_all
  · have : i - 24 < 8 := by omega
    have e : 24 + (i - 24) = i := by omega
    simp [this, e]

/-- The opcode of a word built from an opcode and a payload (R71). -/
@[simp] theorem opcodeOf_append (o : BitVec 8) (p : BitVec 24) : opcodeOf (o ++ p) = o := by
  apply BitVec.eq_of_getLsbD_eq
  intro i hi
  simp only [opcodeOf, BitVec.getLsbD_append, BitVec.getLsbD_extractLsb']
  have : ¬ 24 + i < 24 := by omega
  simp [this, hi]

/-- The payload of a word built from an opcode and a payload (R71). -/
@[simp] theorem payload_append (o : BitVec 8) (p : BitVec 24) : (o ++ p).extractLsb' 0 24 = p := by
  apply BitVec.eq_of_getLsbD_eq
  intro i hi
  simp only [BitVec.getLsbD_append, BitVec.getLsbD_extractLsb']
  simp [hi]

/-- The reserved bits of a word built from an opcode and a payload (R72, R80). -/
@[simp] theorem reservedAbove_append (n : Nat) (o : BitVec 8) (p : BitVec 24) : reservedAbove n (o ++ p) = p >>> n := by
  rw [reservedAbove, payload_append]

/-- The one-bit operand of a word built from an opcode and a payload (R72, R80). -/
@[simp] theorem bitField_append (o : BitVec 8) (p : BitVec 24) : bitField (o ++ p) = p.getLsbD 0 := by
  simp only [bitField, BitVec.getLsbD_append]
  simp

/-- The byte operand of a word built from an opcode and a payload (R72, R80). -/
@[simp] theorem byteField_append (o : BitVec 8) (p : BitVec 24) : byteField (o ++ p) = p.setWidth 8 := by
  apply BitVec.eq_of_getLsbD_eq
  intro i hi
  have : i < 24 := by omega
  simp only [byteField, BitVec.getLsbD_append, BitVec.getLsbD_extractLsb', BitVec.getLsbD_setWidth]
  simp [hi, this]

/-- The half-word operand of a word built from an opcode and a payload (R72). -/
@[simp] theorem halfField_append (o : BitVec 8) (p : BitVec 24) : halfField (o ++ p) = p.setWidth 16 := by
  apply BitVec.eq_of_getLsbD_eq
  intro i hi
  have : i < 24 := by omega
  simp only [halfField, BitVec.getLsbD_append, BitVec.getLsbD_extractLsb', BitVec.getLsbD_setWidth]
  simp [hi, this]

/-- A payload whose bits from `n` up are 0 is its low `n` bits, widened. -/
theorem payload_of_reserved_zero {n : Nat} {p : BitVec 24} (h : p >>> n = 0#24) :
    p = (p.setWidth n).setWidth 24 := by
  apply BitVec.eq_of_getLsbD_eq
  intro i hi
  by_cases g : i < n
  · simp [hi, g]
  · have : (p >>> n).getLsbD (i - n) = false := by rw [h]; simp
    rw [BitVec.getLsbD_ushiftRight] at this
    have e : n + (i - n) = i := by omega
    rw [e] at this
    simp only [BitVec.getLsbD_setWidth]
    simp [g, this]

/-- The low bit of a widened bit. -/
@[simp] theorem getLsbD_ofBool_setWidth (b : Bool) : ((BitVec.ofBool b).setWidth 24).getLsbD 0 = b := by
  cases b <;> rfl

/-- A widened bit has no bits above the first. -/
@[simp] theorem ofBool_reserved (b : Bool) : (BitVec.ofBool b).setWidth 24 >>> 1 = 0#24 := by
  cases b <;> rfl

/-- A widened value has no bits above its own width. -/
theorem setWidth_reserved {n : Nat} (v : BitVec n) : v.setWidth 24 >>> n = 0#24 := by
  apply BitVec.eq_of_getLsbD_eq
  intro i hi
  simp

/-- A widened value, narrowed again. -/
theorem setWidth_narrow {n : Nat} (v : BitVec n) (hn : n ≤ 24) : (v.setWidth 24).setWidth n = v := by
  apply BitVec.eq_of_getLsbD_eq
  intro i hi
  have : i < 24 := by omega
  simp [hi, this]

/-- The opcode and the reserved bits that `checkReserved` lets through. -/
theorem checkReserved_ok {n : Nat} {w : Word} {i j : Instr} :
    checkReserved n w i = .ok j ↔ reservedAbove n w = 0#24 ∧ i = j := by
  unfold checkReserved
  split <;> simp_all

/-- One row of a port's table (R75, R79) as the decoders read it: the lowest reserved bit, the opcode, and the instruction with its
operands. -/
structure Reading where
  reservedFrom : Nat
  opcode : BitVec 8
  instr : Instr

/-- The instruction of the first row with the word's opcode, if its reserved bits are 0. -/
def readFirst (w : Word) : List Reading → Except DecodeError Instr
  | [] => .error .reservedOpcode
  | r :: rows => if opcodeOf w = r.opcode then checkReserved r.reservedFrom w r.instr else readFirst w rows

/-- The rows of R75, with the operands of `w` and `a`. -/
def commandReadings (w a : Word) : List Reading :=
  [⟨0, 0x01#8, .sleep⟩, ⟨0, 0x02#8, .receive⟩, ⟨1, 0x03#8, .transmit a (bitField w)⟩, ⟨0, 0x04#8, .energyDetection a⟩,
   ⟨0, 0x05#8, .cca⟩, ⟨0, 0x06#8, .continuousCarrier⟩, ⟨0, 0x08#8, .currentState⟩, ⟨0, 0x09#8, .notifyBufferFree a⟩,
   ⟨0, 0x0A#8, .channelUpdate⟩, ⟨0, 0x0B#8, .ccaCfgUpdate⟩, ⟨0, 0x0C#8, .irqHandler⟩, ⟨0, 0x0E#8, .csEnter⟩,
   ⟨0, 0x0F#8, .csExit⟩, ⟨8, 0x10#8, .cfgSetChannel (byteField w)⟩, ⟨16, 0x11#8, .cfgSetCca (halfField w)⟩]

/-- The rows of R79, with the operands of `e`. -/
def eventReadings (e : Word) : List Reading :=
  [⟨0, 0x40#8, .evRxStart⟩, ⟨1, 0x41#8, .evRxAddrMatch (bitField e)⟩, ⟨1, 0x42#8, .evRxComplete (bitField e)⟩,
   ⟨0, 0x43#8, .evTxComplete⟩, ⟨1, 0x44#8, .evAckReceived (bitField e)⟩, ⟨0, 0x45#8, .evAckTimeout⟩,
   ⟨8, 0x46#8, .evEdComplete (byteField e)⟩, ⟨1, 0x47#8, .evCcaComplete (bitField e)⟩, ⟨0, 0x48#8, .evDisabled⟩,
   ⟨0, 0x60#8, .evTsGrant⟩, ⟨0, 0x61#8, .evTsRevoke⟩]

/-- An instruction that a table gives is a row's, whose opcode and reserved bits the word has. -/
theorem readFirst_ok {w : Word} {rows : List Reading} {i : Instr} (h : readFirst w rows = .ok i) :
    ∃ r ∈ rows, opcodeOf w = r.opcode ∧ reservedAbove r.reservedFrom w = 0#24 ∧ r.instr = i := by
  induction rows with
  | nil => cases h
  | cons r rows ih =>
    unfold readFirst at h
    split at h
    · rename_i ho
      exact ⟨r, List.mem_cons_self, ho, checkReserved_ok.mp h⟩
    · obtain ⟨q, hq, rest⟩ := ih h
      exact ⟨q, List.mem_cons_of_mem r hq, rest⟩

/-- The event decoder reads the table of R79 from the top (R88). -/
theorem decodeEv_eq (e : Word) : decodeEv e = readFirst e (eventReadings e) := rfl

/-- Every way the event decoder can answer (R88). -/
theorem decodeEv_ok {e : Word} {i : Instr} (h : decodeEv e = .ok i) :
    ∃ r ∈ eventReadings e, opcodeOf e = r.opcode ∧ reservedAbove r.reservedFrom e = 0#24 ∧ r.instr = i :=
  readFirst_ok ((decodeEv_eq e).symm.trans h)

/-- Where the host owns dispatch the command decoder reads the table of R75 from the top (R87). -/
theorem decodeCmd_eq (w a : Word) : decodeCmd .hostCalled w a = readFirst w (commandReadings w a) := rfl

/-- What a self-dispatching block decodes, a host-dispatched one decodes too, and it is not IRQ_HANDLER (R78). -/
theorem decodeCmd_autonomous {w a : Word} {i : Instr} (h : decodeCmd .autonomous w a = .ok i) :
    decodeCmd .hostCalled w a = .ok i ∧ opcodeOf w ≠ 0x0C#8 := by
  by_cases ho : opcodeOf w = 0x0C#8
  · simp [decodeCmd, ho] at h
  · refine ⟨?_, ho⟩
    unfold decodeCmd at h ⊢
    rw [if_neg ho] at h ⊢
    exact h

/-- Every way the command decoder can answer (R87); IRQ_HANDLER only where the host owns dispatch (R78). -/
theorem decodeCmd_ok {mode : IrqDispatch} {w a : Word} {i : Instr} (h : decodeCmd mode w a = .ok i) :
    (∃ r ∈ commandReadings w a, opcodeOf w = r.opcode ∧ reservedAbove r.reservedFrom w = 0#24 ∧ r.instr = i) ∧
      (opcodeOf w = 0x0C#8 → mode = .hostCalled) := by
  cases mode with
  | hostCalled => exact ⟨readFirst_ok ((decodeCmd_eq w a).symm.trans h), fun _ => rfl⟩
  | autonomous =>
    obtain ⟨hh, ho⟩ := decodeCmd_autonomous h
    exact ⟨readFirst_ok ((decodeCmd_eq w a).symm.trans hh), fun hc => absurd hc ho⟩

/-- A word, carried as bytes and put together again (R53). -/
@[simp] theorem wordOfBytes_wordBytes (w : Word) :
    wordOfBytes (w.extractLsb' 0 8) (w.extractLsb' 8 8) (w.extractLsb' 16 8) (w.extractLsb' 24 8) = w := by
  apply BitVec.eq_of_getLsbD_eq
  intro i hi
  simp only [wordOfBytes, BitVec.getLsbD_append, BitVec.getLsbD_extractLsb']
  by_cases h0 : i < 8
  · simp [h0]
  · by_cases h1 : i - 8 < 8
    · have : 8 + (i - 8) = i := by omega
      simp [h0, h1, this]
    · by_cases h2 : i - 8 - 8 < 8
      · have : 16 + (i - 8 - 8) = i := by omega
        simp [h0, h1, h2, this]
      · have h3 : i - 8 - 8 - 8 < 8 := by omega
        have : 24 + (i - 8 - 8 - 8) = i := by omega
        simp [h0, h1, h2, h3, this]

end Sys2Proof
end

