-- ==== Sys2Proof/Laws/State.lean ====
section
/-!
SUPPORT. For each update of the state that a later proof meets by name, one lemma per field, so that no proof unfolds a record
update.
-/

namespace Sys2Proof.Machine

/-! ## `State.respond` -/

@[simp] theorem respond_state (s : State) (w : Word) : (s.respond w).state = s.state := rfl
@[simp] theorem respond_tsGranted (s : State) (w : Word) : (s.respond w).tsGranted = s.tsGranted := rfl
@[simp] theorem respond_rxBuffer (s : State) (w : Word) : (s.respond w).rxBuffer = s.rxBuffer := rfl
@[simp] theorem respond_pendingRx (s : State) (w : Word) : (s.respond w).pendingRx = s.pendingRx := rfl
@[simp] theorem respond_resume (s : State) (w : Word) : (s.respond w).resume = s.resume := rfl
@[simp] theorem respond_job (s : State) (w : Word) : (s.respond w).job = s.job := rfl
@[simp] theorem respond_cfgChannel (s : State) (w : Word) : (s.respond w).cfgChannel = s.cfgChannel := rfl
@[simp] theorem respond_hwChannel (s : State) (w : Word) : (s.respond w).hwChannel = s.hwChannel := rfl
@[simp] theorem respond_pendingChannel (s : State) (w : Word) : (s.respond w).pendingChannel = s.pendingChannel := rfl
@[simp] theorem respond_cfgCca (s : State) (w : Word) : (s.respond w).cfgCca = s.cfgCca := rfl
@[simp] theorem respond_hwCca (s : State) (w : Word) : (s.respond w).hwCca = s.hwCca := rfl
@[simp] theorem respond_pendingCca (s : State) (w : Word) : (s.respond w).pendingCca = s.pendingCca := rfl
@[simp] theorem respond_csHeld (s : State) (w : Word) : (s.respond w).csHeld = s.csHeld := rfl
@[simp] theorem respond_evq (s : State) (w : Word) : (s.respond w).evq = s.evq := rfl
@[simp] theorem respond_fault (s : State) (w : Word) : (s.respond w).fault = s.fault := rfl
@[simp] theorem respond_outLog (s : State) (w : Word) : (s.respond w).outLog = s.outLog := rfl
@[simp] theorem respond_edTime (s : State) (w : Word) : (s.respond w).edTime = s.edTime := rfl
@[simp] theorem respond_responses (s : State) (w : Word) : (s.respond w).responses = s.responses ++ [w] := rfl
@[simp] theorem respond_params (s : State) (w : Word) : (s.respond w).params = s.params := rfl
@[simp] theorem respond_turns (s : State) (w : Word) : (s.respond w).turns = s.turns := rfl
@[simp] theorem respond_poolAnswers (s : State) (w : Word) : (s.respond w).poolAnswers = s.poolAnswers := rfl
@[simp] theorem respond_abortAnswers (s : State) (w : Word) : (s.respond w).abortAnswers = s.abortAnswers := rfl
@[simp] theorem respond_ackReqAnswers (s : State) (w : Word) : (s.respond w).ackReqAnswers = s.ackReqAnswers := rfl
@[simp] theorem respond_drawIx (s : State) (w : Word) : (s.respond w).drawIx = s.drawIx := rfl

/-! ## `State.out` -/

@[simp] theorem out_state (s : State) (r : OutRec) : (s.out r).state = s.state := rfl
@[simp] theorem out_tsGranted (s : State) (r : OutRec) : (s.out r).tsGranted = s.tsGranted := rfl
@[simp] theorem out_rxBuffer (s : State) (r : OutRec) : (s.out r).rxBuffer = s.rxBuffer := rfl
@[simp] theorem out_pendingRx (s : State) (r : OutRec) : (s.out r).pendingRx = s.pendingRx := rfl
@[simp] theorem out_resume (s : State) (r : OutRec) : (s.out r).resume = s.resume := rfl
@[simp] theorem out_job (s : State) (r : OutRec) : (s.out r).job = s.job := rfl
@[simp] theorem out_cfgChannel (s : State) (r : OutRec) : (s.out r).cfgChannel = s.cfgChannel := rfl
@[simp] theorem out_hwChannel (s : State) (r : OutRec) : (s.out r).hwChannel = s.hwChannel := rfl
@[simp] theorem out_pendingChannel (s : State) (r : OutRec) : (s.out r).pendingChannel = s.pendingChannel := rfl
@[simp] theorem out_cfgCca (s : State) (r : OutRec) : (s.out r).cfgCca = s.cfgCca := rfl
@[simp] theorem out_hwCca (s : State) (r : OutRec) : (s.out r).hwCca = s.hwCca := rfl
@[simp] theorem out_pendingCca (s : State) (r : OutRec) : (s.out r).pendingCca = s.pendingCca := rfl
@[simp] theorem out_csHeld (s : State) (r : OutRec) : (s.out r).csHeld = s.csHeld := rfl
@[simp] theorem out_evq (s : State) (r : OutRec) : (s.out r).evq = s.evq := rfl
@[simp] theorem out_fault (s : State) (r : OutRec) : (s.out r).fault = s.fault := rfl
@[simp] theorem out_outLog (s : State) (r : OutRec) : (s.out r).outLog = s.outLog ++ [r] := rfl
@[simp] theorem out_edTime (s : State) (r : OutRec) : (s.out r).edTime = s.edTime := rfl
@[simp] theorem out_responses (s : State) (r : OutRec) : (s.out r).responses = s.responses := rfl
@[simp] theorem out_params (s : State) (r : OutRec) : (s.out r).params = s.params := rfl
@[simp] theorem out_turns (s : State) (r : OutRec) : (s.out r).turns = s.turns := rfl
@[simp] theorem out_poolAnswers (s : State) (r : OutRec) : (s.out r).poolAnswers = s.poolAnswers := rfl
@[simp] theorem out_abortAnswers (s : State) (r : OutRec) : (s.out r).abortAnswers = s.abortAnswers := rfl
@[simp] theorem out_ackReqAnswers (s : State) (r : OutRec) : (s.out r).ackReqAnswers = s.ackReqAnswers := rfl
@[simp] theorem out_drawIx (s : State) (r : OutRec) : (s.out r).drawIx = s.drawIx := rfl

/-! ## `State.enqueue` -/

@[simp] theorem enqueue_state (s : State) (e : Word) : (s.enqueue e).state = s.state := rfl
@[simp] theorem enqueue_tsGranted (s : State) (e : Word) : (s.enqueue e).tsGranted = s.tsGranted := rfl
@[simp] theorem enqueue_rxBuffer (s : State) (e : Word) : (s.enqueue e).rxBuffer = s.rxBuffer := rfl
@[simp] theorem enqueue_pendingRx (s : State) (e : Word) : (s.enqueue e).pendingRx = s.pendingRx := rfl
@[simp] theorem enqueue_resume (s : State) (e : Word) : (s.enqueue e).resume = s.resume := rfl
@[simp] theorem enqueue_job (s : State) (e : Word) : (s.enqueue e).job = s.job := rfl
@[simp] theorem enqueue_cfgChannel (s : State) (e : Word) : (s.enqueue e).cfgChannel = s.cfgChannel := rfl
@[simp] theorem enqueue_hwChannel (s : State) (e : Word) : (s.enqueue e).hwChannel = s.hwChannel := rfl
@[simp] theorem enqueue_pendingChannel (s : State) (e : Word) : (s.enqueue e).pendingChannel = s.pendingChannel := rfl
@[simp] theorem enqueue_cfgCca (s : State) (e : Word) : (s.enqueue e).cfgCca = s.cfgCca := rfl
@[simp] theorem enqueue_hwCca (s : State) (e : Word) : (s.enqueue e).hwCca = s.hwCca := rfl
@[simp] theorem enqueue_pendingCca (s : State) (e : Word) : (s.enqueue e).pendingCca = s.pendingCca := rfl
@[simp] theorem enqueue_csHeld (s : State) (e : Word) : (s.enqueue e).csHeld = s.csHeld := rfl
@[simp] theorem enqueue_evq (s : State) (e : Word) : (s.enqueue e).evq = s.evq ++ [e] := rfl
@[simp] theorem enqueue_fault (s : State) (e : Word) : (s.enqueue e).fault = s.fault := rfl
@[simp] theorem enqueue_outLog (s : State) (e : Word) : (s.enqueue e).outLog = s.outLog := rfl
@[simp] theorem enqueue_edTime (s : State) (e : Word) : (s.enqueue e).edTime = s.edTime := rfl
@[simp] theorem enqueue_responses (s : State) (e : Word) : (s.enqueue e).responses = s.responses := rfl
@[simp] theorem enqueue_params (s : State) (e : Word) : (s.enqueue e).params = s.params := rfl
@[simp] theorem enqueue_turns (s : State) (e : Word) : (s.enqueue e).turns = s.turns := rfl
@[simp] theorem enqueue_poolAnswers (s : State) (e : Word) : (s.enqueue e).poolAnswers = s.poolAnswers := rfl
@[simp] theorem enqueue_abortAnswers (s : State) (e : Word) : (s.enqueue e).abortAnswers = s.abortAnswers := rfl
@[simp] theorem enqueue_ackReqAnswers (s : State) (e : Word) : (s.enqueue e).ackReqAnswers = s.ackReqAnswers := rfl
@[simp] theorem enqueue_drawIx (s : State) (e : Word) : (s.enqueue e).drawIx = s.drawIx := rfl

/-! ## `State.dropHead` -/

@[simp] theorem dropHead_state (s : State) : (s.dropHead).state = s.state := rfl
@[simp] theorem dropHead_tsGranted (s : State) : (s.dropHead).tsGranted = s.tsGranted := rfl
@[simp] theorem dropHead_rxBuffer (s : State) : (s.dropHead).rxBuffer = s.rxBuffer := rfl
@[simp] theorem dropHead_pendingRx (s : State) : (s.dropHead).pendingRx = s.pendingRx := rfl
@[simp] theorem dropHead_resume (s : State) : (s.dropHead).resume = s.resume := rfl
@[simp] theorem dropHead_job (s : State) : (s.dropHead).job = s.job := rfl
@[simp] theorem dropHead_cfgChannel (s : State) : (s.dropHead).cfgChannel = s.cfgChannel := rfl
@[simp] theorem dropHead_hwChannel (s : State) : (s.dropHead).hwChannel = s.hwChannel := rfl
@[simp] theorem dropHead_pendingChannel (s : State) : (s.dropHead).pendingChannel = s.pendingChannel := rfl
@[simp] theorem dropHead_cfgCca (s : State) : (s.dropHead).cfgCca = s.cfgCca := rfl
@[simp] theorem dropHead_hwCca (s : State) : (s.dropHead).hwCca = s.hwCca := rfl
@[simp] theorem dropHead_pendingCca (s : State) : (s.dropHead).pendingCca = s.pendingCca := rfl
@[simp] theorem dropHead_csHeld (s : State) : (s.dropHead).csHeld = s.csHeld := rfl
@[simp] theorem dropHead_evq (s : State) : (s.dropHead).evq = s.evq.tail := rfl
@[simp] theorem dropHead_fault (s : State) : (s.dropHead).fault = s.fault := rfl
@[simp] theorem dropHead_outLog (s : State) : (s.dropHead).outLog = s.outLog := rfl
@[simp] theorem dropHead_edTime (s : State) : (s.dropHead).edTime = s.edTime := rfl
@[simp] theorem dropHead_responses (s : State) : (s.dropHead).responses = s.responses := rfl
@[simp] theorem dropHead_params (s : State) : (s.dropHead).params = s.params := rfl
@[simp] theorem dropHead_turns (s : State) : (s.dropHead).turns = s.turns := rfl
@[simp] theorem dropHead_poolAnswers (s : State) : (s.dropHead).poolAnswers = s.poolAnswers := rfl
@[simp] theorem dropHead_abortAnswers (s : State) : (s.dropHead).abortAnswers = s.abortAnswers := rfl
@[simp] theorem dropHead_ackReqAnswers (s : State) : (s.dropHead).ackReqAnswers = s.ackReqAnswers := rfl
@[simp] theorem dropHead_drawIx (s : State) : (s.dropHead).drawIx = s.drawIx := rfl

/-! ## `State.raiseFault` -/

@[simp] theorem raiseFault_state (s : State) (c : FaultCode) : (s.raiseFault c).state = s.state := rfl
@[simp] theorem raiseFault_tsGranted (s : State) (c : FaultCode) : (s.raiseFault c).tsGranted = s.tsGranted := rfl
@[simp] theorem raiseFault_rxBuffer (s : State) (c : FaultCode) : (s.raiseFault c).rxBuffer = s.rxBuffer := rfl
@[simp] theorem raiseFault_pendingRx (s : State) (c : FaultCode) : (s.raiseFault c).pendingRx = s.pendingRx := rfl
@[simp] theorem raiseFault_resume (s : State) (c : FaultCode) : (s.raiseFault c).resume = s.resume := rfl
@[simp] theorem raiseFault_job (s : State) (c : FaultCode) : (s.raiseFault c).job = s.job := rfl
@[simp] theorem raiseFault_cfgChannel (s : State) (c : FaultCode) : (s.raiseFault c).cfgChannel = s.cfgChannel := rfl
@[simp] theorem raiseFault_hwChannel (s : State) (c : FaultCode) : (s.raiseFault c).hwChannel = s.hwChannel := rfl
@[simp] theorem raiseFault_pendingChannel (s : State) (c : FaultCode) : (s.raiseFault c).pendingChannel = s.pendingChannel := rfl
@[simp] theorem raiseFault_cfgCca (s : State) (c : FaultCode) : (s.raiseFault c).cfgCca = s.cfgCca := rfl
@[simp] theorem raiseFault_hwCca (s : State) (c : FaultCode) : (s.raiseFault c).hwCca = s.hwCca := rfl
@[simp] theorem raiseFault_pendingCca (s : State) (c : FaultCode) : (s.raiseFault c).pendingCca = s.pendingCca := rfl
@[simp] theorem raiseFault_csHeld (s : State) (c : FaultCode) : (s.raiseFault c).csHeld = s.csHeld := rfl
@[simp] theorem raiseFault_evq (s : State) (c : FaultCode) : (s.raiseFault c).evq = s.evq := rfl
@[simp] theorem raiseFault_fault (s : State) (c : FaultCode) : (s.raiseFault c).fault = c.code := rfl
@[simp] theorem raiseFault_outLog (s : State) (c : FaultCode) : (s.raiseFault c).outLog = s.outLog := rfl
@[simp] theorem raiseFault_edTime (s : State) (c : FaultCode) : (s.raiseFault c).edTime = s.edTime := rfl
@[simp] theorem raiseFault_responses (s : State) (c : FaultCode) : (s.raiseFault c).responses = s.responses := rfl
@[simp] theorem raiseFault_params (s : State) (c : FaultCode) : (s.raiseFault c).params = s.params := rfl
@[simp] theorem raiseFault_turns (s : State) (c : FaultCode) : (s.raiseFault c).turns = s.turns := rfl
@[simp] theorem raiseFault_poolAnswers (s : State) (c : FaultCode) : (s.raiseFault c).poolAnswers = s.poolAnswers := rfl
@[simp] theorem raiseFault_abortAnswers (s : State) (c : FaultCode) : (s.raiseFault c).abortAnswers = s.abortAnswers := rfl
@[simp] theorem raiseFault_ackReqAnswers (s : State) (c : FaultCode) : (s.raiseFault c).ackReqAnswers = s.ackReqAnswers := rfl
@[simp] theorem raiseFault_drawIx (s : State) (c : FaultCode) : (s.raiseFault c).drawIx = s.drawIx := rfl

/-! ## `State.powerDown` -/

@[simp] theorem powerDown_state (s : State) : s.powerDown.state = .disabling := rfl
@[simp] theorem powerDown_tsGranted (s : State) : s.powerDown.tsGranted = s.tsGranted := rfl
@[simp] theorem powerDown_rxBuffer (s : State) : s.powerDown.rxBuffer = s.rxBuffer := rfl
@[simp] theorem powerDown_pendingRx (s : State) : s.powerDown.pendingRx = false := rfl
@[simp] theorem powerDown_resume (s : State) : s.powerDown.resume = .receive := rfl
@[simp] theorem powerDown_job (s : State) : s.powerDown.job = s.job := rfl
@[simp] theorem powerDown_cfgChannel (s : State) : s.powerDown.cfgChannel = s.cfgChannel := rfl
@[simp] theorem powerDown_hwChannel (s : State) : s.powerDown.hwChannel = s.hwChannel := rfl
@[simp] theorem powerDown_pendingChannel (s : State) : s.powerDown.pendingChannel = s.pendingChannel := rfl
@[simp] theorem powerDown_cfgCca (s : State) : s.powerDown.cfgCca = s.cfgCca := rfl
@[simp] theorem powerDown_hwCca (s : State) : s.powerDown.hwCca = s.hwCca := rfl
@[simp] theorem powerDown_pendingCca (s : State) : s.powerDown.pendingCca = s.pendingCca := rfl
@[simp] theorem powerDown_csHeld (s : State) : s.powerDown.csHeld = s.csHeld := rfl
@[simp] theorem powerDown_evq (s : State) : s.powerDown.evq = s.evq := rfl
@[simp] theorem powerDown_fault (s : State) : s.powerDown.fault = s.fault := rfl
@[simp] theorem powerDown_outLog (s : State) : s.powerDown.outLog = s.outLog := rfl
@[simp] theorem powerDown_edTime (s : State) : s.powerDown.edTime = s.edTime := rfl
@[simp] theorem powerDown_responses (s : State) : s.powerDown.responses = s.responses := rfl
@[simp] theorem powerDown_params (s : State) : s.powerDown.params = s.params := rfl
@[simp] theorem powerDown_turns (s : State) : s.powerDown.turns = s.turns := rfl
@[simp] theorem powerDown_poolAnswers (s : State) : s.powerDown.poolAnswers = s.poolAnswers := rfl
@[simp] theorem powerDown_abortAnswers (s : State) : s.powerDown.abortAnswers = s.abortAnswers := rfl
@[simp] theorem powerDown_ackReqAnswers (s : State) : s.powerDown.ackReqAnswers = s.ackReqAnswers := rfl
@[simp] theorem powerDown_drawIx (s : State) : s.powerDown.drawIx = s.drawIx := rfl

/-! ## `State.dropReception` -/

/-- R105: it writes no register. -/
@[simp] theorem dropReception_eq (s : State) : s.dropReception = s := rfl

end Sys2Proof.Machine
end

