-- ==== Sys2Proof/Laws/Ops.lean ====
section
/-!
SUPPORT. One lemma per shared operation that says once all it can do: the draws, the common procedures of
spec/40_common_procedures.md in the closed forms of Safety.lean, delivery, and the frames of a command and of an event.
-/

namespace Sys2Proof.Machine

open Sys2Proof.Safety

/-! ## Draws -/

/-- `Acquire()` takes the next answer of the list, or the next free value. -/
theorem drawAcquire_cases (s : State) :
    (∃ h rest, s.poolAnswers = h :: rest ∧ s.drawAcquire = (h, { s with poolAnswers := rest })) ∨
      s.poolAnswers = [] ∧ s.drawAcquire = (Config.poolAnswer s.drawIx, { s with drawIx := s.drawIx + 1 }) := by
  unfold State.drawAcquire
  split <;> simp_all

/-- A draw of `AbortableDraw()` writes only the model's own fields. -/
theorem drawAbortable_frame (s : State) : ∃ rest n,
    s.drawAbortable.2 = { s with abortAnswers := rest, drawIx := n } := by
  unfold State.drawAbortable
  split
  · exact ⟨_, _, rfl⟩
  · exact ⟨s.abortAnswers, _, rfl⟩

/-- A draw of `FrameAckRequested` writes only the model's own fields. -/
theorem drawAckRequested_frame (s : State) (frame : Handle) : ∃ rest n,
    (s.drawAckRequested frame).2 = { s with ackReqAnswers := rest, drawIx := n } := by
  unfold State.drawAckRequested
  split
  · exact ⟨_, _, rfl⟩
  · exact ⟨s.ackReqAnswers, _, rfl⟩

/-! ## Common procedures in closed form -/

/-- The acquire of R104 leaves the buffer of `bufferFor`, and the state after its draw. -/
theorem acquireIfNone_eq (s : State) : s.acquireIfNone = { (bufferFor s).2 with rxBuffer := (bufferFor s).1 } := by
  unfold State.acquireIfNone bufferFor State.drawAcquire
  by_cases h : s.rxBuffer = noHandle
  · cases s.poolAnswers <;> simp [h]
  · rw [if_neg h, if_pos h]

/-- A draw of the listening path writes only the model's own fields. -/
theorem bufferFor_frame (s : State) : ∃ rest n, (bufferFor s).2 = { s with poolAnswers := rest, drawIx := n } := by
  unfold bufferFor
  split
  · exact ⟨_, _, rfl⟩
  · split
    · exact ⟨_, _, rfl⟩
    · exact ⟨s.poolAnswers, _, rfl⟩

/-- The buffer the listening path works with does not depend on the registers it does not read. -/
theorem bufferFor_resume (s : State) (r : Resume) :
    bufferFor { s with resume := r } = ((bufferFor s).1, { (bufferFor s).2 with resume := r }) := by
  unfold bufferFor
  by_cases h : s.rxBuffer = noHandle
  · rw [if_neg (not_not_intro h), if_neg (not_not_intro h)]
    dsimp only
    split <;> rfl
  · rw [if_pos h, if_pos h]

/-- `enter_rx_listen()` in closed form (R104). -/
theorem enterRxListen_eq (s : State) : s.enterRxListen = armed s := by
  unfold State.enterRxListen State.listenWithBuffer armed armedWith
  rw [acquireIfNone_eq, bufferFor_resume]
  by_cases h : (bufferFor s).1 = noHandle
  · simp [h]
  · by_cases g : (bufferFor s).2.tsGranted = true <;> simp [h, g]

/-- `settle()` in closed form (R107). -/
theorem settle_eq (s : State) : s.settle = settled s := by
  obtain ⟨st, _, _, _, _, _, _, _, pc, _, _, pa⟩ := s
  cases pc <;> cases pa <;> cases h : st.cfgImmediate <;>
    simp [State.settle, settled, State.applyChannel, State.applyCca, h]

/-- `settle()` does nothing where no update may be applied (R107). -/
theorem settled_of_not_immediate {s : State} (h : s.state.cfgImmediate = false) : settled s = s := by
  simp [settled, h]

/-- `settle()` in a CfgImmediate state (R107). -/
theorem settled_of_immediate {s : State} (h : s.state.cfgImmediate = true) : settled s = applied s := by
  simp [settled, applied, h]

/-- `settle()` does nothing where no update waits (R107). -/
theorem settled_of_no_update {s : State} (hc : s.pendingChannel = false) (ha : s.pendingCca = false) : settled s = s := by
  obtain ⟨st⟩ := s
  subst hc ha
  simp [settled]

/-- The listening path lands in a CfgImmediate state (R104). -/
theorem armed_immediate (s : State) : (armed s).state.cfgImmediate = true := by
  unfold armed armedWith
  by_cases h : (bufferFor s).1 ≠ noHandle ∧ (bufferFor s).2.tsGranted = true
  · simp only [if_pos h]; rfl
  · simp only [if_neg h]; rfl

/-- A step that ends in `enter_rx_listen()` and `settle()` (R104, R107). -/
theorem settle_enterRxListen (s : State) : s.enterRxListen.settle = listening s := by
  rw [enterRxListen_eq, settle_eq, settled_of_immediate (armed_immediate s), listening]

/-- A step that ends the job (R106, R107). -/
theorem settle_completeJob (s : State) (o : TxOutcome) : (s.completeJob o).settle = jobEnded o s := by
  rw [State.completeJob, settle_enterRxListen]
  rfl

/-- `drop_reception()`, wherever it is called, changes nothing (R105). -/
@[simp] theorem dropIfReceiving_eq (s : State) : s.dropIfReceiving = s := by
  unfold State.dropIfReceiving
  cases s.state <;> rfl

/-- `start_probe(target)` (R110). -/
theorem startProbe_eq (s : State) (target : OpState) :
    s.startProbe target = { s with pendingRx := false, resume := .receive, state := target } := by
  rw [State.startProbe, dropIfReceiving_eq]

/-- When `probe_source_check()` answers Legal (R111). -/
theorem probeSourceCheck_legal (s : State) : s.probeSourceCheck = .legal ↔
    s.state = .waitingRxFrame ∨ s.state = .rxHeader ∨ s.state = .rxFrame ∨ s.state = .txAck ∨
      (s.state = .sleep ∧ s.tsGranted = true) ∨
        (s.state = .waitingTimeslot ∧ s.resume = .receive ∧ s.tsGranted = true) := by
  unfold State.probeSourceCheck
  cases s.state <;> cases s.resume <;> cases s.tsGranted <;> simp

/-! ## Delivery, reset -/

/-- A bounded queue holds at least one event (92_eei_decisions.md, OPEN parameters). -/
theorem capacity_pos {d : EvqDepth} {n : Nat} (h : d.capacity = some n) : 1 ≤ n := by
  cases d with
  | unbounded => cases h
  | bounded more => cases h; exact Nat.le_add_left 1 more

/-- When a delivery finds the queue full (R210). -/
theorem queueFull_iff (s : State) : s.queueFull = true ↔ s.params.evqDepth.capacity = some s.evq.length := by
  unfold State.queueFull
  cases s.params.evqDepth.capacity with
  | none => simp
  | some depth => simp only [beq_iff_eq, Option.some.injEq]; exact eq_comm

/-- A delivery (R210): a fault of one of two codes, or the word at the tail of the queue. -/
theorem deliver_cases (s : State) (e : Word) :
    (isEventWord e = false ∧ s.deliver e = s.raiseFault .illegalEncoding) ∨
      (isEventWord e = true ∧ s.queueFull = true ∧ s.deliver e = s.raiseFault .evqOverflow) ∨
        (isEventWord e = true ∧ s.queueFull = false ∧ s.deliver e = s.enqueue e) := by
  unfold State.deliver
  cases isEventWord e <;> cases s.queueFull <;> simp

/-- Reset is independent of every register of S (R230). -/
theorem resetStep_same {s t : State} (h : SameRegisters s t) (hp : t.params = s.params) :
    SameRegisters s.resetStep t.resetStep := by
  rw [h] at hp ⊢
  simp only at hp
  simp only [SameRegisters, State.resetStep, hp]

/-! ## The frame of a command and of an event -/

/-- A command that needs the critical section, inside it. -/
theorem inCriticalSection_held {s : State} {r : StepOut} (h : s.csHeld = true) : inCriticalSection s r = r := if_pos h

/-- A command that needs the critical section, outside it (R102). -/
theorem inCriticalSection_free {s : State} {r : StepOut} (h : s.csHeld = false) :
    inCriticalSection s r = faults s 0x02#8 := by
  unfold inCriticalSection
  rw [h]
  rfl

/-- A command with a null handle (R102 check 3). -/
theorem withHandle_null (s : State) (r : StepOut) : withHandle noHandle s r = faults s 0x07#8 := rfl

/-- A command with a handle. -/
theorem withHandle_some {s : State} {r : StepOut} {h : Handle} (n : h ≠ noHandle) : withHandle h s r = r := if_neg n

/-- The end of a command step that does not fault. -/
theorem finish_eq (s : State) (w : Word) : finish (s, w) = answers (settled s) w := by
  rw [finish, settle_eq]
  rfl

/-- The end of a dispatch step. -/
theorem dispatched_eq (s : State) : dispatched s = .next (settled s) := by
  rw [dispatched, settle_eq]

/-- What `perform_event` gives, `exec` settles: IRQ_HANDLER and the dispatcher run the same body (R101, R144). -/
theorem exec_of_performEvent {i : Instr} {s t : State} (h : performEvent i s = some t) : exec i s = .next t.settle := by
  cases i <;> cases h <;> rfl

/-- `perform_event` has a rule for every event (R108). -/
theorem performEvent_isSome (i : Instr) (s : State) : (performEvent i s).isSome = i.isEvent := by
  cases i <;> rfl

/-- The dispatch of an event always gives a next state (R216). -/
theorem exec_event_next {i : Instr} (h : i.isEvent = true) (s : State) :
    ∃ t, performEvent i s = some t ∧ exec i s = .next t.settle := by
  obtain ⟨t, ht⟩ := Option.isSome_iff_exists.mp ((performEvent_isSome i s).trans h)
  exact ⟨t, ht, exec_of_performEvent ht⟩

end Sys2Proof.Machine
end

