-- ==== Sys2Proof/Laws/PerInstr.lean ====
section
/-!
SUPPORT. The family WordShape, per instruction: what the first word of an encoding says to a decoder before it reads any operand
(spec/30_encoding.md R71, R74): its opcode, and whether an argument word follows.
-/

namespace Sys2Proof.Laws

/-- The first word carries the instruction's opcode, and that opcode alone tells how many words the instruction has (R74). -/
def WordShape.Statement (i : Instr) : Prop :=
  opcodeOf i.word = i.opcode ∧ takesArgument i.opcode = i.argument.isSome ∧
    (encode i).length = if takesArgument (opcodeOf i.word) then 2 else 1

/-- The second and third clauses follow from the first where the opcode agrees with the operands. -/
theorem WordShape.of_opcode (i : Instr) (h : takesArgument i.opcode = i.argument.isSome) : WordShape.Statement i := by
  refine ⟨opcodeOf_append _ _, h, ?_⟩
  rw [Instr.word, opcodeOf_append, h, encode]
  cases i.argument <;> rfl

theorem WordShape.sleep : WordShape.Statement .sleep := WordShape.of_opcode _ rfl

theorem WordShape.receive : WordShape.Statement .receive := WordShape.of_opcode _ rfl

theorem WordShape.transmit (frame : Handle) (ccaRequired : Bool) : WordShape.Statement (.transmit frame ccaRequired) := WordShape.of_opcode _ rfl

theorem WordShape.energyDetection (timeUs : Word) : WordShape.Statement (.energyDetection timeUs) := WordShape.of_opcode _ rfl

theorem WordShape.cca : WordShape.Statement .cca := WordShape.of_opcode _ rfl

theorem WordShape.continuousCarrier : WordShape.Statement .continuousCarrier := WordShape.of_opcode _ rfl

theorem WordShape.currentState : WordShape.Statement .currentState := WordShape.of_opcode _ rfl

theorem WordShape.notifyBufferFree (buffer : Handle) : WordShape.Statement (.notifyBufferFree buffer) := WordShape.of_opcode _ rfl

theorem WordShape.channelUpdate : WordShape.Statement .channelUpdate := WordShape.of_opcode _ rfl

theorem WordShape.ccaCfgUpdate : WordShape.Statement .ccaCfgUpdate := WordShape.of_opcode _ rfl

theorem WordShape.irqHandler : WordShape.Statement .irqHandler := WordShape.of_opcode _ rfl

theorem WordShape.csEnter : WordShape.Statement .csEnter := WordShape.of_opcode _ rfl

theorem WordShape.csExit : WordShape.Statement .csExit := WordShape.of_opcode _ rfl

theorem WordShape.cfgSetChannel (channel : BitVec 8) : WordShape.Statement (.cfgSetChannel channel) := WordShape.of_opcode _ rfl

theorem WordShape.cfgSetCca (ccacfg : BitVec 16) : WordShape.Statement (.cfgSetCca ccacfg) := WordShape.of_opcode _ rfl

theorem WordShape.evRxStart : WordShape.Statement .evRxStart := WordShape.of_opcode _ rfl

theorem WordShape.evRxAddrMatch (addressed : Bool) : WordShape.Statement (.evRxAddrMatch addressed) := WordShape.of_opcode _ rfl

theorem WordShape.evRxComplete (ackRequested : Bool) : WordShape.Statement (.evRxComplete ackRequested) := WordShape.of_opcode _ rfl

theorem WordShape.evTxComplete : WordShape.Statement .evTxComplete := WordShape.of_opcode _ rfl

theorem WordShape.evAckReceived (matching : Bool) : WordShape.Statement (.evAckReceived matching) := WordShape.of_opcode _ rfl

theorem WordShape.evAckTimeout : WordShape.Statement .evAckTimeout := WordShape.of_opcode _ rfl

theorem WordShape.evEdComplete (energy : BitVec 8) : WordShape.Statement (.evEdComplete energy) := WordShape.of_opcode _ rfl

theorem WordShape.evCcaComplete (busy : Bool) : WordShape.Statement (.evCcaComplete busy) := WordShape.of_opcode _ rfl

theorem WordShape.evDisabled : WordShape.Statement .evDisabled := WordShape.of_opcode _ rfl

theorem WordShape.evTsGrant : WordShape.Statement .evTsGrant := WordShape.of_opcode _ rfl

theorem WordShape.evTsRevoke : WordShape.Statement .evTsRevoke := WordShape.of_opcode _ rfl

end Sys2Proof.Laws
end

