-- ==== Sys2Proof/Laws/Step.lean ====
section
/-!
SUPPORT. What a step and an instruction can answer, once: the inversion lemmas that the whole-machine statements cite.
-/

namespace Sys2Proof.Machine

open Sys2Proof.Safety

/-- The effect and the response of a command that passes its guards, `none` for an event and where the head of the queue is no
event. -/
def commandRule (i : Instr) (s : State) : Option (State × Word) :=
  match i with
  | .sleep => some (sleepRule s)
  | .receive => some (receiveRule s)
  | .transmit frame c => some (transmitRule frame c s)
  | .energyDetection t => some (probeRule s (State.startProbe { s with edTime := t } .energyDetection))
  | .cca => some (probeRule s (s.startProbe .cca))
  | .continuousCarrier => some (probeRule s (s.startProbe .continuousCarrier))
  | .currentState => some (s, respState s.state)
  | .notifyBufferFree b => some (notifyBufferFreeRule b s)
  | .channelUpdate => some ({ s with pendingChannel := true }, respOk)
  | .ccaCfgUpdate => some ({ s with pendingCca := true }, respOk)
  | .irqHandler =>
    match s.evq with
    | [] => some (s, respOk)
    | e :: _ => (performHead e s).map fun t => (t, respOk)
  | .csEnter => some ({ s with csHeld := true }, respOk)
  | .csExit => some ({ s with csHeld := false }, respOk)
  | .cfgSetChannel ch => some ({ s with cfgChannel := ch }, respOk)
  | .cfgSetCca cfg => some ({ s with cfgCca := cfg }, respOk)
  | .evRxStart | .evRxAddrMatch _ | .evRxComplete _ | .evTxComplete | .evAckReceived _ => none
  | .evAckTimeout | .evEdComplete _ | .evCcaComplete _ | .evDisabled | .evTsGrant | .evTsRevoke => none

/-- A command inside its critical section answers with its rule or faults; the rest of a guard. -/
theorem guarded_next_cases {s t : State} {r : State × Word} (h : inCriticalSection s (finish r) = .next t) :
    (∃ c, t = s.raiseFault c) ∨ t = (settled r.1).respond r.2 := by
  unfold inCriticalSection faulting at h
  split at h
  · right
    cases h
    rw [settle_eq]
  · left
    exact ⟨_, (Host.Outcome.next.inj h).symm⟩

/-- Everything an instruction that answers a next state can have done: raised a fault, run its command's rule with `settle()` and
the response, or performed its event with `settle()`. -/
theorem exec_next_cases {i : Instr} {s t : State} (h : exec i s = .next t) :
    (i.isEvent = false ∧ ∃ c, t = s.raiseFault c) ∨
      (i.isEvent = false ∧ ∃ u w, commandRule i s = some (u, w) ∧ t = (settled u).respond w) ∨
        (i.isEvent = true ∧ ∃ u, performEvent i s = some u ∧ t = settled u) := by
  have guarded : ∀ r : State × Word, inCriticalSection s (finish r) = .next t →
      (∃ c, t = s.raiseFault c) ∨ t = (settled r.1).respond r.2 := fun r => guarded_next_cases
  have plain : ∀ r : State × Word, finish r = .next t → t = (settled r.1).respond r.2 := by
    intro r hr
    rw [← Host.Outcome.next.inj hr, settle_eq]
  have faulted : ∀ c, faulting c s = .next t → t = s.raiseFault c := fun c hc => (Host.Outcome.next.inj hc).symm
  have command : ∀ r : State × Word, commandRule i s = some r → i.isEvent = false →
      ((∃ c, t = s.raiseFault c) ∨ t = (settled r.1).respond r.2) →
      (i.isEvent = false ∧ ∃ c, t = s.raiseFault c) ∨
        (i.isEvent = false ∧ ∃ u w, commandRule i s = some (u, w) ∧ t = (settled u).respond w) ∨
          (i.isEvent = true ∧ ∃ u, performEvent i s = some u ∧ t = settled u) := fun r hr he hc =>
    hc.elim (fun c => Or.inl ⟨he, c⟩) fun e => Or.inr (Or.inl ⟨he, r.1, r.2, hr, e⟩)
  cases i with
  | sleep => exact command _ rfl rfl (guarded _ h)
  | receive => exact command _ rfl rfl (guarded _ h)
  | energyDetection => exact command _ rfl rfl (guarded _ h)
  | cca => exact command _ rfl rfl (guarded _ h)
  | continuousCarrier => exact command _ rfl rfl (guarded _ h)
  | currentState => exact command _ rfl rfl (guarded _ h)
  | channelUpdate => exact command _ rfl rfl (guarded _ h)
  | ccaCfgUpdate => exact command _ rfl rfl (guarded _ h)
  | transmit frame c =>
    simp only [exec, execTransmit, withHandle] at h
    split at h
    · exact Or.inl ⟨rfl, _, faulted _ h⟩
    · exact command _ rfl rfl (guarded _ h)
  | notifyBufferFree b =>
    simp only [exec, execNotifyBufferFree, withHandle] at h
    split at h
    · exact Or.inl ⟨rfl, _, faulted _ h⟩
    · exact command _ rfl rfl (guarded _ h)
  | irqHandler =>
    simp only [exec, execIrqHandler] at h
    split at h
    · exact Or.inl ⟨rfl, _, faulted _ h⟩
    · split at h
      · exact Or.inl ⟨rfl, _, faulted _ h⟩
      · unfold irqHandlerRule at h
        split at h
        · rename_i he
          exact command (s, respOk) (by simp [commandRule, he]) rfl (Or.inr (plain _ h))
        · rename_i e rest he
          split at h
          · rename_i u hu
            exact command (u, respOk) (by simp [commandRule, he, hu]) rfl (Or.inr (plain _ h))
          · cases h
  | csEnter =>
    simp only [exec, execCsEnter] at h
    split at h
    · exact Or.inl ⟨rfl, _, faulted _ h⟩
    · exact command _ rfl rfl (Or.inr (plain _ h))
  | csExit =>
    simp only [exec, execCsExit] at h
    split at h
    · exact command _ rfl rfl (Or.inr (plain _ h))
    · exact Or.inl ⟨rfl, _, faulted _ h⟩
  | cfgSetChannel ch => exact command _ rfl rfl (Or.inr (plain _ h))
  | cfgSetCca cfg => exact command _ rfl rfl (Or.inr (plain _ h))
  | _ => exact Or.inr (Or.inr ⟨rfl, _, rfl, by rw [← Host.Outcome.next.inj h, settle_eq]⟩)

/-- Whose step a step is. -/
theorem step_cases (s : State) :
    (∃ u rest, s.turns = u :: rest ∧ step s = takeTurn u { s with turns := rest }) ∨
      (s.turns = [] ∧ step s = dispatchStep s) := by
  unfold step nextStep
  cases h : s.turns with
  | nil => exact Or.inr ⟨rfl, rfl⟩
  | cons u rest => exact Or.inl ⟨u, rest, rfl, rfl⟩

/-- A command step: not enabled, illegal, or the command (R102). -/
theorem hostStep_cases (w a : Word) (s : State) :
    (s.fault ≠ 0#8 ∧ hostStep w a s = .next s) ∨
      (s.fault = 0#8 ∧ (∃ e, decodeCmd s.params.irqDispatch w a = .error e) ∧
          hostStep w a s = .next (s.raiseFault .illegalEncoding)) ∨
        (s.fault = 0#8 ∧ ∃ i, decodeCmd s.params.irqDispatch w a = .ok i ∧ hostStep w a s = exec i s) := by
  unfold hostStep
  by_cases h : s.fault = 0#8
  · rw [if_pos h]
    cases hd : decodeCmd s.params.irqDispatch w a with
    | ok i => exact Or.inr (Or.inr ⟨h, i, rfl, rfl⟩)
    | error e => exact Or.inr (Or.inl ⟨h, ⟨e, rfl⟩, rfl⟩)
  · rw [if_neg h]
    exact Or.inl ⟨h, rfl⟩

/-- A delivery step: not enabled, or the delivery (R210). -/
theorem deliveryStep_cases (e : Word) (s : State) :
    (s.fault ≠ 0#8 ∧ deliveryStep e s = .next s) ∨ (s.fault = 0#8 ∧ deliveryStep e s = .next (s.deliver e)) := by
  unfold deliveryStep
  by_cases h : s.fault = 0#8
  · exact Or.inr ⟨h, if_pos h⟩
  · exact Or.inl ⟨h, if_neg h⟩

/-- When dispatch is enabled (R101). -/
theorem dispatchEnabled_iff (s : State) : s.dispatchEnabled = true ↔
    s.fault = 0#8 ∧ s.csHeld = false ∧ s.evq ≠ [] ∧ s.params.irqDispatch = .autonomous := by
  simp [State.dispatchEnabled, and_assoc]

/-- A dispatch step: not enabled, stopped at a word that is no event, or the event at the head (R101). -/
theorem dispatchStep_cases (s : State) :
    (s.dispatchEnabled = false ∧ dispatchStep s = .next s) ∨
      (s.dispatchEnabled = true ∧ ∃ e rest, s.evq = e :: rest ∧
        ((∃ x, decodeEv e = .error x ∧ dispatchStep s = .fault .undecodableEvent) ∨
          ∃ i, decodeEv e = .ok i ∧ dispatchStep s = exec i { s with evq := rest })) := by
  unfold dispatchStep
  cases hd : s.dispatchEnabled with
  | false => exact Or.inl ⟨rfl, rfl⟩
  | true =>
    cases hq : s.evq with
    | nil => exact absurd hq ((dispatchEnabled_iff s).mp hd).2.2.1
    | cons e rest =>
      refine Or.inr ⟨rfl, e, rest, rfl, ?_⟩
      simp only [if_true, dispatchHead]
      cases he : decodeEv e with
      | error x => exact Or.inl ⟨x, rfl, rfl⟩
      | ok i =>
        refine Or.inr ⟨i, rfl, ?_⟩
        simp only [State.dropHead, hq, List.tail_cons]

/-- The event decoder answers events only (R79). -/
theorem decodeEv_isEvent {e : Word} {i : Instr} (h : decodeEv e = .ok i) : i.isEvent = true := by
  obtain ⟨r, hr, -, -, hi⟩ := decodeEv_ok h
  have rows : ∀ r ∈ eventReadings e, r.instr.isEvent = true := by simp [eventReadings, Instr.isEvent]
  exact hi ▸ rows r hr

/-- The command decoder answers commands only (R75). -/
theorem decodeCmd_isCommand {mode : IrqDispatch} {w a : Word} {i : Instr} (h : decodeCmd mode w a = .ok i) :
    i.isEvent = false := by
  obtain ⟨⟨r, hr, -, -, hi⟩, -⟩ := decodeCmd_ok h
  have rows : ∀ r ∈ commandReadings w a, r.instr.isEvent = false := by simp [commandReadings, Instr.isEvent]
  exact hi ▸ rows r hr

end Sys2Proof.Machine
end

