-- ==== Sys2Proof/Tests/Slice0.lean ====
section
/-!
SUPPORT. Small tests: the well-formedness smoke, the decoding of a word per instruction written out from the match and fields of
R75 and R79, one or two steps per instruction with the result a vector of spec/95_test_vectors.md gives (its id is in the name or
the comment), and, per statement with hypotheses, states and operands that meet them.
-/

namespace Sys2Proof.Tests

open Sys2Proof.Machine Sys2Proof.Safety

/-! ## The canonical states of 95_test_vectors.md 0.3 -/

/-- A canonical state: `cs_held = 0`, no job, nothing queued. -/
def k (st : OpState) (granted : Bool) (buffer : Handle) : State :=
  { State.reset with
    state := st, tsGranted := granted, rxBuffer := buffer,
    cfgChannel := 0x14#8, hwChannel := 0x14#8, cfgCca := 0x0155#16, hwCca := 0x0155#16 }

/-- The same inside the critical section, as command vectors start. -/
def cs (s : State) : State := { s with csHeld := true }

/-- The same with a job for frame 0x00001000. -/
def job (cca ackReq : Bool) (s : State) : State := { s with job := some { frame := 0x1000#32, cca := cca, ackReq := ackReq } }

/-- The same with the pool about to answer `h`. -/
def pool (h : Handle) (s : State) : State := { s with poolAnswers := [h] }

/-- The same with these turns to come. -/
def turns (ts : List Turn) (s : State) : State := { s with turns := ts }

/-- The same with the host in charge of dispatch and this queue. -/
def hostCalled (q : List Word) (s : State) : State :=
  { s with evq := q, params := { s.params with irqDispatch := .hostCalled } }

def kDis : State := k .disabling true 0x2000#32
def kSl0 : State := k .sleep false 0#32
def kSl1 : State := k .sleep true 0#32
def kWT : State := k .waitingTimeslot false 0x2000#32
def kWTi : State := { k .waitingTimeslot true 0#32 with pendingRx := true }
def kWTi0 : State := { k .waitingTimeslot false 0#32 with pendingRx := true }
def kWTc : State := { k .waitingTimeslot false 0x2000#32 with resume := .continuousCarrier }
def kWRF : State := k .waitingRxFrame true 0x2000#32
def kRH : State := k .rxHeader true 0x2000#32
def kRF : State := k .rxFrame true 0x2000#32
def kTA : State := k .txAck true 0#32
def kCB : State := job true true (k .ccaBeforeTx true 0x2000#32)
def kTF : State := job false false (k .txFrame true 0x2000#32)
def kTF1 : State := job false true (k .txFrame true 0x2000#32)
def kRA : State := job false true (k .rxAck true 0x2000#32)
def kED : State := { k .energyDetection true 0x2000#32 with edTime := 1000#32 }
def kCA : State := k .cca true 0x2000#32
def kCC : State := k .continuousCarrier true 0x2000#32

/-- What a step answers, if it is a next state. -/
def next? : StepOut → Option State
  | .next t => some t
  | .fault _ => none
  | .refused _ => none

/-- State, response words and output words of what a step answers. -/
def seen (r : StepOut) : Option (OpState × List Word × List Word) :=
  (next? r).map fun t => (t.state, t.responses, t.outWords)

/-! ## Well-formedness -/

theorem test_illformed_transmit_null : (Instr.transmit 0#32 true).illFormed = some .nullFrame := by decide
theorem test_illformed_notify_null : (Instr.notifyBufferFree 0#32).illFormed = some .nullBuffer := by decide
theorem test_wellformed_energy_detection_zero : (Instr.energyDetection 0#32).WellFormed := by decide

/-! ## Decoding: words written out from the columns match and fields of R75, R79 -/

theorem test_decode_sleep : decodeTableWord 32 0x01000000 = some (.sleep) := by decide
theorem test_decode_receive : decodeTableWord 32 0x02000000 = some (.receive) := by decide
theorem test_decode_transmit : decodeTableWord 64 0x0000100003000001 = some (.transmit 0x1000#32 true) := by decide
theorem test_decode_energy_detection : decodeTableWord 64 0x000003E804000000 = some (.energyDetection 1000#32) := by decide
theorem test_decode_cca : decodeTableWord 32 0x05000000 = some (.cca) := by decide
theorem test_decode_continuous_carrier : decodeTableWord 32 0x06000000 = some (.continuousCarrier) := by decide
theorem test_decode_current_state : decodeTableWord 32 0x08000000 = some (.currentState) := by decide
theorem test_decode_notify_buffer_free : decodeTableWord 64 0x0000300009000000 = some (.notifyBufferFree 0x3000#32) := by decide
theorem test_decode_channel_update : decodeTableWord 32 0x0A000000 = some (.channelUpdate) := by decide
theorem test_decode_cca_cfg_update : decodeTableWord 32 0x0B000000 = some (.ccaCfgUpdate) := by decide
theorem test_decode_irq_handler : decodeTableWord 32 0x0C000000 = some (.irqHandler) := by decide
theorem test_decode_cs_enter : decodeTableWord 32 0x0E000000 = some (.csEnter) := by decide
theorem test_decode_cs_exit : decodeTableWord 32 0x0F000000 = some (.csExit) := by decide
theorem test_decode_cfg_set_channel : decodeTableWord 32 0x10000019 = some (.cfgSetChannel 0x19#8) := by decide
theorem test_decode_cfg_set_cca : decodeTableWord 32 0x11000200 = some (.cfgSetCca 0x0200#16) := by decide
theorem test_decode_ev_rx_start : decodeTableWord 32 0x40000000 = some (.evRxStart) := by decide
theorem test_decode_ev_rx_addr_match : decodeTableWord 32 0x41000001 = some (.evRxAddrMatch true) := by decide
theorem test_decode_ev_rx_complete : decodeTableWord 32 0x42000001 = some (.evRxComplete true) := by decide
theorem test_decode_ev_tx_complete : decodeTableWord 32 0x43000000 = some (.evTxComplete) := by decide
theorem test_decode_ev_ack_received : decodeTableWord 32 0x44000001 = some (.evAckReceived true) := by decide
theorem test_decode_ev_ack_timeout : decodeTableWord 32 0x45000000 = some (.evAckTimeout) := by decide
theorem test_decode_ev_ed_complete : decodeTableWord 32 0x4600002A = some (.evEdComplete 0x2A#8) := by decide
theorem test_decode_ev_cca_complete : decodeTableWord 32 0x47000000 = some (.evCcaComplete false) := by decide
theorem test_decode_ev_disabled : decodeTableWord 32 0x48000000 = some (.evDisabled) := by decide
theorem test_decode_ev_ts_grant : decodeTableWord 32 0x60000000 = some (.evTsGrant) := by decide
theorem test_decode_ev_ts_revoke : decodeTableWord 32 0x61000000 = some (.evTsRevoke) := by decide

/-- The words DC2 to DC8, DC10, DC16, DC18, DC20 of the command port. -/
theorem test_decode_illegal_commands :
    ([0x01000001#32, 0x00000000#32, 0x07000000#32, 0x0D000000#32, 0x12000000#32, 0xFF000000#32, 0x40000000#32, 0x03000002#32,
        0x08000010#32, 0x10000100#32, 0x11010000#32].all fun w => (decodeCmd .hostCalled w 0x1000#32).toOption == none) = true := by
  decide

/-- The words DE2, DE4, DE7, DE10, DE12 to DE14 of the event port. -/
theorem test_decode_illegal_events :
    ([0x40000001#32, 0x41000002#32, 0x46000100#32, 0x49000000#32, 0x61000001#32, 0x62000000#32, 0x01000000#32].all fun e =>
      !isEventWord e) = true := by decide

/-- TRANSMIT on four bytes per word, least significant first (R53). -/
theorem test_bytes_transmit :
    encodeBytes (.transmit 0x1000#32 true) = [0x01#8, 0#8, 0#8, 0x03#8, 0x00#8, 0x10#8, 0#8, 0#8] := by decide

/-! ## One step, from the vectors -/

/-- TR6 -/
theorem test_sleep_wrf : seen (exec .sleep (cs kWRF)) = some (.disabling, [1#32], []) := by decide
/-- TR9 -/
theorem test_sleep_rx_frame : next? (exec .sleep (cs kRF)) = some { cs kRF with responses := [2#32] } := by decide
/-- TR17 -/
theorem test_receive_pool_none : (next? (exec .receive (cs (pool 0#32 kSl1)))).map (fun t => (t.state, t.pendingRx, t.rxBuffer)) = some (.waitingTimeslot, true, 0#32) := by decide
/-- TR25 -/
theorem test_receive_ends_carrier : seen (exec .receive (cs kCC)) = some (.waitingRxFrame, [1#32], []) := by decide
/-- TR27 -/
theorem test_transmit_cca : (next? (exec (.transmit 0x1000#32 true) (cs { kWRF with ackReqAnswers := [true] }))).map (fun t => (t.state, t.job)) =
    some (.ccaBeforeTx, some ⟨0x1000#32, true, true⟩) := by decide
/-- TR31 -/
theorem test_transmit_waiting_timeslot : next? (exec (.transmit 0x1000#32 true) (cs kWTc)) = some { cs kWTc with responses := [4#32] } := by decide
/-- TR38 -/
theorem test_energy_detection_idle_armed : (next? (exec (.energyDetection 1000#32) (cs kWTi))).map (fun t => (t.state, t.edTime, t.pendingRx)) =
    some (.energyDetection, 1000#32, false) := by decide
/-- TR42 -/
theorem test_energy_detection_busy : next? (exec (.energyDetection 500#32) (cs kED)) = some { cs kED with responses := [2#32] } := by decide
/-- TR48 -/
theorem test_cca_drops_reception : (next? (exec .cca (cs kRH))).map (fun t => (t.state, t.outLog, t.rxBuffer)) = some (.cca, [], 0x2000#32) := by decide
/-- TR46 -/
theorem test_cca_no_timeslot : next? (exec .cca (cs kSl0)) = some { cs kSl0 with responses := [4#32] } := by decide
/-- TR52 -/
theorem test_continuous_carrier_sleep : seen (exec .continuousCarrier (cs kSl1)) = some (.continuousCarrier, [1#32], []) := by decide
/-- TR57 -/
theorem test_continuous_carrier_suspended : next? (exec .continuousCarrier (cs kWTc)) = some { cs kWTc with responses := [2#32] } := by decide
/-- HS10 -/
theorem test_current_state_rx_ack : next? (exec .currentState (cs kRA)) = some { cs kRA with responses := [0x91#32] } := by decide
/-- HS14 -/
theorem test_notify_taken : (next? (exec (.notifyBufferFree 0x3000#32) (cs kWTi))).map (fun t => (t.state, t.rxBuffer, t.responses)) =
    some (.waitingRxFrame, 0x3000#32, [9#32]) := by decide
/-- HS16 -/
theorem test_notify_ignored : next? (exec (.notifyBufferFree 0x3000#32) (cs kWRF)) = some { cs kWRF with responses := [1#32] } := by decide
/-- HS22 -/
theorem test_channel_update_now : (next? (exec .channelUpdate (cs { kWRF with cfgChannel := 0x19#8 }))).map (fun t => (t.hwChannel, t.pendingChannel)) =
    some (0x19#8, false) := by decide
/-- HS23 -/
theorem test_channel_update_deferred : (next? (exec .channelUpdate (cs { kTF with cfgChannel := 0x19#8 }))).map (fun t => (t.hwChannel, t.pendingChannel)) =
    some (0x14#8, true) := by decide
/-- HS29 -/
theorem test_cca_cfg_update_now : (next? (exec .ccaCfgUpdate (cs { kSl1 with cfgCca := 0x0200#16 }))).map (fun t => (t.hwCca, t.pendingCca)) =
    some (0x0200#16, false) := by decide
/-- HS40 -/
theorem test_irq_handler_one_event : (next? (exec .irqHandler (hostCalled [0x40000000#32, 0x41000001#32] kWRF))).map (fun t => (t.state, t.evq, t.responses)) =
    some (.rxHeader, [0x41000001#32], [1#32]) := by decide
/-- HS41 -/
theorem test_irq_handler_in_cs : (next? (exec .irqHandler (cs (hostCalled [0x40000000#32] kWRF)))).map (fun t => (t.fault, t.responses)) = some (5#8, []) := by decide
/-- HS33 -/
theorem test_cs_enter : (next? (exec .csEnter kWRF)).map (fun t => (t.csHeld, t.responses)) = some (true, [1#32]) := by decide
/-- HS34 -/
theorem test_cs_enter_nested : next? (exec .csEnter (cs kWRF)) = some { cs kWRF with fault := 3#8 } := by decide
/-- HS35 -/
theorem test_cs_exit : (next? (exec .csExit (cs kWRF))).map (fun t => (t.csHeld, t.responses)) = some (false, [1#32]) := by decide
/-- HS36 -/
theorem test_cs_exit_not_held : next? (exec .csExit kWRF) = some { kWRF with fault := 4#8 } := by decide
/-- HS31 -/
theorem test_cfg_set_channel : (next? (exec (.cfgSetChannel 0x19#8) kWRF)).map (fun t => (t.cfgChannel, t.hwChannel, t.responses)) =
    some (0x19#8, 0x14#8, [1#32]) := by decide
/-- FV8 -/
theorem test_cfg_set_cca : (next? (exec (.cfgSetCca 0x0200#16) kWRF)).map (fun t => (t.cfgCca, t.hwCca, t.responses)) =
    some (0x0200#16, 0x0155#16, [1#32]) := by decide
/-- RE1 -/
theorem test_rx_start : next? (exec .evRxStart kWRF) = some { kWRF with state := .rxHeader } := by decide
/-- RE2 -/
theorem test_rx_start_no_op : next? (exec .evRxStart kED) = some kED := by decide
/-- RE3 -/
theorem test_rx_addr_match : next? (exec (.evRxAddrMatch true) kRH) = some { kRH with state := .rxFrame } := by decide
/-- RE4 -/
theorem test_rx_addr_no_match : next? (exec (.evRxAddrMatch false) kRH) = some { kRH with state := .waitingRxFrame } := by decide
/-- RE6 -/
theorem test_rx_complete : (next? (exec (.evRxComplete false) (pool 0x2100#32 kRF))).map (fun t => (t.state, t.rxBuffer, t.outWords)) =
    some (.waitingRxFrame, 0x2100#32, [0x81000000#32, 0x2000#32]) := by decide
/-- RE7 -/
theorem test_rx_complete_ack : (next? (exec (.evRxComplete true) kRF)).map (fun t => (t.state, t.rxBuffer, t.outWords)) =
    some (.txAck, 0#32, [0x81000000#32, 0x2000#32]) := by decide
/-- RE10 -/
theorem test_tx_complete : (next? (exec .evTxComplete kTF)).map (fun t => (t.state, t.job, t.outWords)) =
    some (.waitingRxFrame, none, [0x80000000#32, 0x1000#32]) := by decide
/-- RE13 -/
theorem test_tx_complete_ack : (next? (exec .evTxComplete (pool 0#32 kTA))).map (fun t => (t.state, t.pendingRx)) = some (.waitingTimeslot, true) := by decide
/-- RE15 -/
theorem test_ack_received : seen (exec (.evAckReceived true) kRA) = some (.waitingRxFrame, [], [0x80000000#32, 0x1000#32]) := by decide
/-- RE16 -/
theorem test_ack_not_matching : next? (exec (.evAckReceived false) kRA) = some kRA := by decide
/-- RE18 -/
theorem test_ack_timeout : seen (exec .evAckTimeout kRA) = some (.waitingRxFrame, [], [0x80000002#32, 0x1000#32]) := by decide
/-- RE19 -/
theorem test_ack_timeout_no_op : next? (exec .evAckTimeout kTF1) = some kTF1 := by decide
/-- RE20 -/
theorem test_ed_complete : seen (exec (.evEdComplete 0x2A#8) kED) = some (.waitingRxFrame, [], [0x8200002A#32]) := by decide
/-- RE24 -/
theorem test_cca_complete_busy : seen (exec (.evCcaComplete true) kCB) = some (.waitingRxFrame, [], [0x80000001#32, 0x1000#32]) := by decide
/-- RE25 -/
theorem test_cca_complete_clear : next? (exec (.evCcaComplete false) kCB) = some { kCB with state := .txFrame } := by decide
/-- RE29 -/
theorem test_disabled : next? (exec .evDisabled kDis) = some { kDis with state := .sleep } := by decide
/-- AE2 -/
theorem test_ts_grant : next? (exec .evTsGrant kWT) = some { kWT with tsGranted := true, state := .waitingRxFrame } := by decide
/-- AE4 -/
theorem test_ts_grant_carrier : next? (exec .evTsGrant kWTc) =
    some { kWTc with tsGranted := true, resume := .receive, state := .continuousCarrier } := by decide
/-- AV11 -/
theorem test_ts_revoke_job : (next? (exec .evTsRevoke kRA)).map (fun t => (t.state, t.tsGranted, t.job, t.outWords)) =
    some (.waitingTimeslot, false, none, [0x80000003#32, 0x1000#32]) := by decide
/-- AV8 -/
theorem test_ts_revoke_tx_ack : (next? (exec .evTsRevoke (pool 0#32 kTA))).map (fun t => (t.state, t.tsGranted, t.pendingRx)) =
    some (.waitingTimeslot, false, true) := by decide
/-- The table of 95_test_vectors.md 6.3 -/
theorem test_need : ([kSl0, kED, kCA, kTA, kCC].map fun s => s.need.code) = [0#2, 1#2, 1#2, 2#2, 2#2] := by decide
/-- FV2 -/
theorem test_fault_then_nothing : next? (step (turns [.host 0x0E000000#32 0#32] { kWRF with fault := 2#8 })) = some { kWRF with fault := 2#8 } := by decide
/-- FV4 -/
theorem test_reset_ends_job : (next? (step (turns [.reset] kTF))).map (fun t => (t.state, t.job, t.outLog, t.fault)) = some (.sleep, none, [], 0#8) := by decide
/-- FV5 -/
theorem test_delivery_overflow : (next? (deliveryStep 0x40000000#32
      { cs kWRF with evq := [0x40000000#32, 0x40000000#32], params := { kWRF.params with evqDepth := .bounded 1 } })).map
      (fun t => (t.evq.length, t.fault)) = some (2, 6#8) := by decide
/-- withFetchWord: CFG_SET_CHANNEL as the first step after reset -/
theorem test_fetch_command_at_reset : (next? (step (State.reset.withFetchWord 32 0x10000019))).map (fun t => (t.cfgChannel, t.responses)) =
    some (0x19#8, [1#32]) := by decide
/-- withFetchWord: EV_TS_GRANT as the first step after reset -/
theorem test_fetch_event_at_reset : (next? (step (State.reset.withFetchWord 32 0x60000000))).map (fun t => (t.tsGranted, t.evq, t.turns)) =
    some (true, [], []) := by decide
/-- withFetchWord: IRQ_HANDLER as the first step after reset -/
theorem test_fetch_irq_handler_at_reset : (next? (step (State.reset.withFetchWord 32 0x0C000000))).map (fun t => (t.fault, t.responses)) = some (0#8, [1#32]) := by decide

/-! ## Witnesses: for each statement with hypotheses, states and operands that meet them, clause by clause -/

/-- The same with this queue. -/
def queue (q : List Word) (s : State) : State := { s with evq := q }

/-- The same with both configuration updates deferred. -/
def deferring (s : State) : State := { s with pendingChannel := true, pendingCca := true, cfgChannel := 0x19#8, cfgCca := 0x0200#16 }

/-- The invariants do not read the critical section. -/
theorem inv_cs {s : State} (h : BlockInv s) : BlockInv (cs s) :=
  ⟨h.1, h.2, h.3, h.4, h.5, h.6, h.7, h.8, h.9, h.10, h.11, h.12, h.13⟩

/-- Queued event words keep the invariants of a block with an unbounded queue. -/
theorem inv_queue {s : State} {q : List Word} (h : BlockInv s) (hp : s.params.evqDepth.capacity = none)
    (hq : q.all isEventWord = true) : BlockInv (queue q s) :=
  ⟨h.1, h.2, h.3, h.4, h.5, h.6, h.7, h.8, h.9, h.10, List.all_eq_true.mp hq, fun _ hd => absurd (hp.symm.trans hd) nofun, h.13⟩

/-- The invariants of a state without deferred updates and with an empty, unbounded queue, as one decidable fact. -/
def invChecked (s : State) : Bool :=
  s.job.isSome == s.state.txFamily && (!s.state.active || s.tsGranted) &&
    (!(s.state == .waitingRxFrame || s.state == .rxHeader || s.state == .rxFrame) || s.rxBuffer != noHandle) &&
    (!s.pendingRx || s.state == .waitingTimeslot && s.rxBuffer == noHandle) &&
    (!(s.state == .waitingTimeslot && s.resume == .receive) || s.pendingRx == (s.rxBuffer == noHandle)) &&
    (s.resume == .receive || s.state == .waitingTimeslot && !s.tsGranted && !s.pendingRx) &&
    !s.pendingChannel && !s.pendingCca && (!(s.state == .waitingTimeslot && s.tsGranted) || s.pendingRx) &&
    (s.job == none || s.job == kRA.job) && s.evq.isEmpty && s.params.evqDepth == .unbounded && s.fault == 0#8

/-- A state that passes the check meets the invariants. -/
theorem inv_of {s : State} (h : invChecked s = true) : BlockInv s := by
  simp only [invChecked, Bool.and_eq_true] at h
  obtain ⟨⟨⟨⟨⟨⟨⟨⟨⟨⟨⟨⟨h1, h2⟩, h3⟩, h4⟩, h5⟩, h6⟩, hc⟩, ha⟩, h8⟩, hj⟩, hq⟩, hp⟩, hf⟩ := h
  constructor
  case job_iff_tx => exact eq_of_beq h1
  case active_granted => intro a; simpa [a] using h2
  case listening_buffer => intro a; rcases a with a | a | a <;> simpa [a] using h3
  case pending_waits => intro a; simpa [a] using h4
  case pending_iff_no_buffer =>
    intro a b
    simp only [a, b, beq_self_eq_true, Bool.and_self, Bool.not_true, Bool.false_or] at h5
    rw [eq_of_beq h5]
    exact beq_iff_eq
  case suspended_waits => intro a; simp [a] at h6; exact h6.1
  case settled => intro _; simpa using And.intro hc ha
  case granted_waits_buffer => intro a b; simpa [a, b] using h8
  case suspended_not_pending => intro a; simp [a] at h6; exact h6.2
  case job_frame =>
    intro j hs
    simp [hs] at hj
    cases hj
    decide
  case queue_decodes => simp [List.isEmpty_iff.mp hq]
  case queue_bounded => simp [eq_of_beq hp, EvqDepth.capacity]
  case fault_code => simp [eq_of_beq hf]

theorem inv_kWRF : BlockInv kWRF := inv_of (by decide)
theorem inv_kRF : BlockInv kRF := inv_of (by decide)
theorem inv_kRA : BlockInv kRA := inv_of (by decide)
theorem inv_kWTc : BlockInv kWTc := inv_of (by decide)
theorem inv_kWTi0 : BlockInv kWTi0 := inv_of (by decide)
theorem inv_kTA : BlockInv kTA := inv_of (by decide)
theorem inv_kWT : BlockInv kWT := inv_of (by decide)

theorem witness_ReservedBitsFault :
    ([(0x01#8, 0), (0x02#8, 0), (0x03#8, 1), (0x04#8, 0), (0x05#8, 0), (0x06#8, 0), (0x08#8, 0), (0x09#8, 0), (0x0A#8, 0),
      (0x0B#8, 0), (0x0C#8, 0), (0x0E#8, 0), (0x0F#8, 0), (0x10#8, 8), (0x11#8, 16)].all fun p =>
        kWRF.fault == 0#8 &&
        [p.2, 23].all fun b =>
          let w : Word := p.1 ++ (1#24 <<< b)
          opcodeOf w == p.1 && reservedAbove p.2 w != 0#24) = true := by decide

theorem witness_SleepRequest :
    (∀ s ∈ [kWRF], s.csHeld = false) ∧
    (∀ s ∈ [cs kWT, cs kWRF], s.csHeld = true ∧ (s.state = .waitingTimeslot ∧ s.resume = .receive ∨ s.state = .waitingRxFrame)) ∧
    (∀ s ∈ [cs { kRH with abortAnswers := [true] }], s.csHeld = true ∧ s.state = .rxHeader ∧ s.drawAbortable.1 = true) ∧
    (∀ s ∈ [cs { kRH with abortAnswers := [false] }], s.csHeld = true ∧ s.state = .rxHeader ∧ s.drawAbortable.1 = false) ∧
    (∀ s ∈ [cs kSl1, cs kWTc], s.csHeld = true ∧ (s.state = .sleep ∨ s.state = .waitingTimeslot ∧ s.resume = .continuousCarrier)) ∧
    (∀ s ∈ [cs kDis, cs kRF, cs kTA, cs kRA, cs kED, cs kCC], s.csHeld = true ∧ (s.state = .disabling ∨ s.state = .rxFrame ∨ s.state = .txAck ∨
      s.state.txFamily = true ∨ s.state.probe = true ∨ s.state = .continuousCarrier)) ∧
    (∀ s ∈ [kDis], s.state = .disabling) := by decide

theorem witness_ReceiveRequest :
    (∀ s ∈ [cs kSl0, cs kCC, cs kWTc], s.csHeld = true ∧ (s.state = .sleep ∨ s.state = .continuousCarrier ∨
      s.state = .waitingTimeslot ∧ s.resume = .continuousCarrier)) ∧
    (∀ s ∈ [cs kWTi, cs kWRF], s.csHeld = true ∧ (s.state = .waitingTimeslot ∧ s.resume = .receive ∨ s.state = .waitingRxFrame)) ∧
    (∀ s ∈ [cs kRH, cs kRF, cs kTA], s.csHeld = true ∧ (s.state = .rxHeader ∨ s.state = .rxFrame ∨ s.state = .txAck)) ∧
    (∀ s ∈ [cs kDis, cs kTF, cs kCA], s.csHeld = true ∧ (s.state = .disabling ∨ s.state.txFamily = true ∨ s.state.probe = true)) ∧
    (∀ s ∈ [kSl1], s.csHeld = false) := by decide

theorem witness_TransmitRequest :
    0x00000001#32 ≠ noHandle ∧ 0xFFFFFFFF#32 ≠ noHandle ∧ kWRF.csHeld = false ∧
    (∀ s ∈ [cs kWRF, cs kRH, cs kRF], s.csHeld = true ∧ (s.state = .waitingRxFrame ∨ s.state = .rxHeader ∨ s.state = .rxFrame)) ∧
    (∀ s ∈ [cs kWTi], s.csHeld = true ∧ s.state = .waitingTimeslot) ∧
    (∀ s ∈ [cs kSl1], s.csHeld = true ∧ s.state = .sleep) ∧
    (∀ s ∈ [cs kDis, cs kTA, cs kCB, cs kED, cs kCC], s.csHeld = true ∧ (s.state = .disabling ∨ s.state = .txAck ∨ s.state.txFamily = true ∨
      s.state.probe = true ∨ s.state = .continuousCarrier)) := by decide

/-- Of EnergyDetectionRequest, CcaRequest and ContinuousCarrierRequest. -/
theorem witness_ProbeTable :
    (∀ s ∈ [cs kWRF, cs kRH, cs kRF, cs kTA, cs kSl1, cs kWTi], s.csHeld = true ∧ (s.state = .waitingRxFrame ∨ s.state = .rxHeader ∨
      s.state = .rxFrame ∨ s.state = .txAck ∨ (s.state = .sleep ∧ s.tsGranted = true) ∨
        (s.state = .waitingTimeslot ∧ s.resume = .receive ∧ s.tsGranted = true))) ∧
    (∀ s ∈ [cs kSl0, cs kWT], s.csHeld = true ∧ (s.state = .sleep ∧ s.tsGranted = false ∨
      s.state = .waitingTimeslot ∧ s.resume = .receive ∧ s.tsGranted = false)) ∧
    (∀ s ∈ [cs kWTc], s.csHeld = true ∧ s.state = .waitingTimeslot ∧ s.resume = .continuousCarrier) ∧
    (∀ s ∈ [cs kDis, cs kRA, cs kCA, cs kCC], s.csHeld = true ∧ (s.state = .disabling ∨ s.state.txFamily = true ∨
      s.state.probe = true ∨ s.state = .continuousCarrier)) ∧
    (∀ s ∈ [kSl1], s.csHeld = false) := by decide

theorem witness_EnergyDetectionRequest :
    kED.state = .energyDetection ∧ (next? (exec (.evEdComplete 0xFF#8) kED)).isSome = true ∧ (cs kSl1).csHeld = true ∧ (cs kSl1).state = .sleep ∧ (cs kSl1).tsGranted = true ∧ kSl1.csHeld = false := by decide

theorem witness_CcaRequest :
    kCA.state = .cca ∧ (next? (exec .evTsRevoke kCA)).isSome = true ∧ (cs kRH).csHeld = true ∧ (cs kRH).state = .rxHeader ∧ kRH.csHeld = false := by decide

theorem witness_ContinuousCarrierRequest :
    kCC.state = .continuousCarrier ∧
    (∃ t, exec .receive (cs kCC) = .next t ∧ t.state ≠ .continuousCarrier) ∧
    (∃ t, exec .evTsRevoke kCC = .next t ∧ t.state ≠ .continuousCarrier) := ⟨by decide, ⟨_, rfl, by decide⟩, ⟨_, rfl, by decide⟩⟩

theorem witness_RequestLegalityMatrix :
    (legality (.transmit 0x00000001#32 true) (cs kWT) = some .failR ∧ (Instr.transmit 0x00000001#32 true).WellFormed ∧ (cs kWT).csHeld = true) ∧
    (legality (.transmit 0xFFFFFFFF#32 false) (cs kRF) = some .ok ∧ (Instr.transmit 0xFFFFFFFF#32 false).WellFormed) ∧
    (legality .sleep (cs kRF) = some .failI ∧ Verdict.failI ≠ .ok) ∧
    (∀ s ∈ [cs kWTi, cs kWRF, cs kRH, cs kRF, cs kTA], legality .receive s = some .ok ∧ alreadyReceiving s = true ∧ s.csHeld = true) := by decide

theorem witness_CurrentStateQuery :
    (∀ s ∈ [cs kDis, cs kCC], s.csHeld = true) ∧
    kRA.csHeld = false ∧
    (∀ s ∈ [kWRF, deferring kTF], (s.state.cfgImmediate = true → s.pendingChannel = false ∧ s.pendingCca = false)) := by decide

theorem witness_NotifyBufferFree :
    0x00000001#32 ≠ noHandle ∧ 0xFFFFFFFF#32 ≠ noHandle ∧ kWTi.csHeld = false ∧
    (∀ s ∈ [cs kWTi, cs kWTi0], s.csHeld = true ∧ s.pendingRx = true ∧ s.state = .waitingTimeslot) ∧
    (∀ s ∈ [cs kWT, cs kTA], s.csHeld = true ∧ ¬(s.pendingRx = true ∧ s.state = .waitingTimeslot)) := by decide

theorem witness_ChannelUpdate :
    (∀ s ∈ [cs kSl0, cs kWT, cs kWRF], s.csHeld = true ∧ s.state.cfgImmediate = true) ∧
    (∀ s ∈ [cs kDis, cs kCC], s.csHeld = true ∧ s.state.cfgImmediate = false) ∧
    ((∃ t, exec .channelUpdate (cs kTF) = .next t) ∧ kTF.csHeld = false) ∧
    (kTF.state.cfgImmediate = false ∧ (deferring kTF).pendingChannel = true ∧
      (∃ t, step (turns [.dispatcher] (queue [0x43000000#32] (deferring kTF))) = .next t ∧ t.state.cfgImmediate = true) ∧
      ∃ t, step (turns [.radio 0x43000000#32] (deferring kTF)) = .next t ∧ t.state.cfgImmediate = false) :=
  ⟨by decide, by decide, ⟨⟨_, rfl⟩, by decide⟩, by decide, by decide, ⟨_, rfl, by decide⟩, _, rfl, by decide⟩

theorem witness_CcaCfgUpdate :
    (∀ s ∈ [cs kSl0, cs kWT, cs kWRF], s.csHeld = true ∧ s.state.cfgImmediate = true) ∧
    (∀ s ∈ [cs kDis, cs kCC], s.csHeld = true ∧ s.state.cfgImmediate = false) ∧
    ((∃ t, exec .ccaCfgUpdate (cs kTF) = .next t) ∧ kTF.csHeld = false) ∧
    (kTF.state.cfgImmediate = false ∧ (deferring kTF).pendingCca = true ∧
      (∃ t, step (turns [.dispatcher] (queue [0x43000000#32] (deferring kTF))) = .next t ∧ t.state.cfgImmediate = true) ∧
      ∃ t, step (turns [.radio 0x43000000#32] (deferring kTF)) = .next t ∧ t.state.cfgImmediate = false) :=
  ⟨by decide, by decide, ⟨⟨_, rfl⟩, by decide⟩, by decide, by decide, ⟨_, rfl, by decide⟩, _, rfl, by decide⟩

theorem witness_IrqHandlerDispatchesOneEvent :
    (opcodeOf 0x0C000001#32 = 0x0C#8 ∧ reservedAbove 0 0x0C000001#32 ≠ 0#24 ∧ (hostCalled [] kWRF).fault = 0#8) ∧
    (opcodeOf 0x0C000000#32 = 0x0C#8 ∧ kWRF.params.irqDispatch = .autonomous ∧ kWRF.fault = 0#8) ∧
    (∀ s ∈ [cs (hostCalled [0x40000000#32] kWRF)], s.params.irqDispatch = .hostCalled ∧ s.csHeld = true) ∧
    (∀ s ∈ [hostCalled [] kWRF], s.params.irqDispatch = .hostCalled ∧ s.csHeld = false ∧ s.evq = []) ∧
    (∀ s ∈ [hostCalled [0x40000000#32] kWRF], s.params.irqDispatch = .hostCalled ∧ s.csHeld = false ∧ s.evq = 0x40000000#32 :: []) ∧
    (decodeEv 0x40000000#32).toOption = some .evRxStart := by decide

theorem witness_CsEnterGuard :
    (cs kWRF).csHeld = true ∧ kWRF.csHeld = false ∧
    ((cs kWRF).fault = 0#8 ∧ isEventWord 0x40000000#32 = true ∧ (cs kWRF).queueFull = false) := by decide

theorem witness_CsExitGuard :
    kWRF.csHeld = false ∧
    ∀ q ∈ [[], [0x40000000#32]], (cs (queue q kWRF)).csHeld = true ∧ (cs (queue q kWRF)).fault = 0#8 ∧
      (cs (queue q kWRF)).params.irqDispatch = .autonomous ∧ (next? (exec .csExit (cs (queue q kWRF)))).isSome = true := by decide

theorem witness_RxStartEvent :
    kWRF.state = .waitingRxFrame ∧
    (∀ s ∈ [kDis, kWTi, kRH, kCC], s.state ≠ .waitingRxFrame) := by decide

theorem witness_RxAddrMatchEvent :
    kRH.state = .rxHeader ∧
    (∀ s ∈ [kDis, kWRF, kRF, kCC], s.state ≠ .rxHeader) := by decide

theorem witness_RxCompleteEvent :
    kRF.state = .rxFrame ∧
    (∀ s ∈ [kDis, kRH, kTA, kCC], s.state ≠ .rxFrame) := by decide

theorem witness_TxCompleteEvent :
    (kTF1.state = .txFrame ∧ kTF1.jobAckReq = true) ∧
    (kTF.state = .txFrame ∧ kTF.jobAckReq = false) ∧
    kTA.state = .txAck ∧
    (∀ s ∈ [kCB, kRA, kCC], s.state ≠ .txFrame ∧ s.state ≠ .txAck) := by decide

theorem witness_AckReceivedEvent :
    kRA.state = .rxAck ∧
    (∀ s ∈ [kTF1, kED], s.state ≠ .rxAck) := by decide

theorem witness_AckTimeoutEvent :
    kRA.state = .rxAck ∧
    (∀ s ∈ [kTF1, kED], s.state ≠ .rxAck) := by decide

theorem witness_EdCompleteEvent :
    kED.state = .energyDetection ∧
    (∀ s ∈ [kRA, kCA], s.state ≠ .energyDetection) := by decide

theorem witness_CcaCompleteEvent :
    kCB.state = .ccaBeforeTx ∧
    kCA.state = .cca ∧
    (∀ s ∈ [kTF, kED, kCC], s.state ≠ .ccaBeforeTx ∧ s.state ≠ .cca) := by decide

theorem witness_DisabledEvent :
    kDis.state = .disabling ∧
    ((cs kDis).state = .disabling ∧ legality .receive (cs kDis) = some .failI ∧ Instr.receive.WellFormed ∧ (cs kDis).csHeld = true) ∧
    (∀ s ∈ [kSl1, kCC], s.state ≠ .disabling) := by decide

theorem witness_RadioEventMatrix :
    (isRadioEvent .evRxStart = true ∧ eventEntry .sleep .evRxStart false 0#32 0#32 = .dash) ∧
    (isRadioEvent (.evRxComplete true) = true ∧ eventEntry kRF.state (.evRxComplete true) false 0#32 0x2000#32 = .goes .txAck [.rxDone 0x2000#32]) ∧
    (isRadioEvent .evAckTimeout = true ∧ eventEntry kRA.state .evAckTimeout true 0x1000#32 0x2000#32 = .listens [.txDone .noAck 0x1000#32]) := by decide

theorem witness_TimeslotGrantEvent :
    (kWTc.state = .waitingTimeslot ∧ kWTc.resume = .continuousCarrier) ∧
    (kWT.state = .waitingTimeslot ∧ kWT.resume = .receive ∧ kWT.pendingRx = false ∧ kWT.rxBuffer ≠ noHandle) ∧
    (kWTi0.state = .waitingTimeslot ∧ kWTi0.resume = .receive ∧ kWTi0.pendingRx = true) ∧
    (∀ s ∈ [kDis, kSl0, kWRF, kCC], s.state ≠ .waitingTimeslot) := by decide

theorem witness_TimeslotRevokeEvent :
    kDis.state = .disabling ∧
    (∀ s ∈ [kSl1, kWTi], s.state = .sleep ∨ s.state = .waitingTimeslot) ∧
    (∀ s ∈ [kWRF, kRH, kRF, kTA], s.state = .waitingRxFrame ∨ s.state = .rxHeader ∨ s.state = .rxFrame ∨ s.state = .txAck) ∧
    (∀ s ∈ [kCB, kTF, kRA], s.state.txFamily = true) ∧
    kED.state = .energyDetection ∧
    kCA.state = .cca ∧
    kCC.state = .continuousCarrier ∧
    (∀ s ∈ [kWRF, kRA, kCC], s.state.active = true ∧ (next? (exec .evTsRevoke s)).isSome = true) := by decide

theorem witness_CommandDecoderExact :
    kWRF.fault = 0#8 ∧ (decodeCmd kWRF.params.irqDispatch 0x0C000000#32 0#32).toOption = none := by decide

theorem witness_EventDecoderExact :
    kWRF.fault = 0#8 ∧ (decodeEv 0x62000000#32).toOption = none := by decide

theorem witness_ByteStreamRoundTrip :
    (Instr.irqHandler = .irqHandler → IrqDispatch.hostCalled = .hostCalled) ∧
    (Instr.sleep = .irqHandler → IrqDispatch.autonomous = .hostCalled) := by decide

theorem witness_StepRunsDecodedCommand :
    (turns [.host 0x03000001#32 0x1000#32] (cs kWRF)).turns = .host 0x03000001#32 0x1000#32 :: [] ∧
    (cs kWRF).fault = 0#8 ∧ (decodeCmd (cs kWRF).params.irqDispatch 0x03000001#32 0x1000#32).toOption = some (.transmit 0x1000#32 true) := by decide

theorem witness_StepRunsDispatchedEvent :
    (∀ ts ∈ [[.dispatcher], []], (turns ts (queue [0x40000000#32] kWRF)).turns = ts) ∧
    (queue [0x40000000#32] kWRF).fault = 0#8 ∧ (queue [0x40000000#32] kWRF).csHeld = false ∧
    (queue [0x40000000#32] kWRF).params.irqDispatch = .autonomous ∧ (queue [0x40000000#32] kWRF).evq = 0x40000000#32 :: [] ∧
    (decodeEv 0x40000000#32).toOption = some .evRxStart := by decide

/-- HS37 and HS43 among them. -/
theorem witness_StepRunsDispatchedEvent_not_enabled :
    ∀ s ∈ [{ queue [0x40000000#32] kWRF with fault := 0x02#8 }, cs (queue [0x40000000#32] kWRF), kWRF, hostCalled [0x40000000#32] kWRF],
      (s.fault ≠ 0#8 ∨ s.csHeld = true ∨ s.evq = [] ∨ s.params.irqDispatch = .hostCalled) ∧ s.turns = [] ∧
        (turns [.dispatcher] s).turns = .dispatcher :: [] := by decide

/-- The same with a queue bounded to `more + 1` events. -/
def bounded (more : Nat) (s : State) : State := { s with params := { s.params with evqDepth := .bounded more } }

theorem witness_DeliveryAppendsOrFaults :
    (turns [.radio 0x40000001#32] kWRF).turns = .radio 0x40000001#32 :: [] ∧ (decodeEv 0x40000001#32).toOption = none ∧
    (turns [.arbiter 0x60000000#32] kWRF).turns = .arbiter 0x60000000#32 :: [] ∧ (decodeEv 0x60000000#32).toOption = some .evTsGrant ∧
    (∀ s ∈ [bounded 0 (queue [0x40000000#32] kWRF), bounded 1 (queue [0x40000000#32, 0x40000000#32] kWRF)], s.fault = 0#8 ∧ s.params.evqDepth.capacity = some s.evq.length) ∧
    (∀ s ∈ [kWRF, bounded 0 kWRF, bounded 2 (queue [0x40000000#32, 0x40000000#32] kWRF)], s.fault = 0#8 ∧ s.params.evqDepth.capacity ≠ some s.evq.length) := by decide

theorem witness_FaultedBlockOnlyResets :
    (∀ s ∈ [{ kWRF with fault := 0x01#8 }, { kWRF with fault := 0xFF#8 }], s.fault ≠ 0#8 ∧ s.turns = []) ∧
    (turns [.dispatcher] { kWRF with fault := 0x07#8 }).turns = .dispatcher :: [] ∧ Turn.dispatcher ≠ .reset ∧
    (turns [.reset] { kWRF with fault := 0x03#8 }).turns = .reset :: [] := by decide

theorem witness_FaultIsPrecise :
    (turns [.host 0x02000000#32 0#32] kWRF).fault = 0#8 ∧
    ∃ t, step (turns [.host 0x02000000#32 0#32] kWRF) = .next t ∧ t.fault ≠ 0#8 := ⟨by decide, _, rfl, by decide⟩

theorem witness_CommandStepChecks :
    ({ kWRF with fault := 0x02#8 } : State).fault ≠ 0#8 ∧ kWRF.fault = 0#8 ∧
    (decodeCmd kWRF.params.irqDispatch 0x00000000#32 0#32).toOption = none ∧
    (decodeCmd kWRF.params.irqDispatch 0x03000000#32 0#32).toOption = some (.transmit 0#32 false) ∧ ¬(Instr.transmit 0#32 false).WellFormed ∧
    (decodeCmd kWRF.params.irqDispatch 0x02000000#32 0#32).toOption = some .receive ∧ Instr.receive.WellFormed ∧
      needsCriticalSection .receive = true ∧ kWRF.csHeld = false ∧
    (decodeCmd kWRF.params.irqDispatch 0x0E000000#32 0#32).toOption = some .csEnter ∧ (cs kWRF).csHeld = true ∧
    (decodeCmd kWRF.params.irqDispatch 0x0F000000#32 0#32).toOption = some .csExit ∧ kWRF.csHeld = false ∧
    (decodeCmd (cs (hostCalled [] kWRF)).params.irqDispatch 0x0C000000#32 0#32).toOption = some .irqHandler ∧ (cs (hostCalled [] kWRF)).csHeld = true ∧
    (cs (queue [0x40000000#32] kWRF)).evq.all isEventWord = true ∧ (cs (queue [0x40000000#32] kWRF)).csHeld = true := by decide

theorem witness_ResetSetsEveryRegister :
    (turns [.reset, .dispatcher] { kTF with fault := 0x01#8 }).turns = .reset :: [.dispatcher] := by decide

theorem witness_EveryStepKeepsInvariants :
    BlockInv (queue [0x45000000#32] kRA) ∧ (∃ t, step (queue [0x45000000#32] kRA) = .next t) ∧
    BlockInv kWTc ∧ BlockInv kWTi0 ∧ BlockInv kTA :=
  ⟨inv_queue inv_kRA rfl (by decide), ⟨_, rfl⟩, inv_kWTc, inv_kWTi0, inv_kTA⟩

/-- Of ReachableStatesMeetInvariants and ReachableStatesNeverStop. -/
theorem witness_ReachableStates :
    Reachable (started Config.defaultParams [.arbiter 0x60000000#32] [0x2000#32] [] []) := Reachable.start _ _ _ _ _

/-- And a state after a step. -/
theorem witness_ReachableStates_granted :
    ∃ t, Reachable t ∧ t.evq = [0x60000000#32] :=
  ⟨_, Reachable.step _ _ (Reachable.start Config.defaultParams [.arbiter 0x60000000#32] [] [] []) rfl, by decide⟩

theorem witness_FrameReturnedExactlyOnce :
    BlockInv (queue [0x45000000#32] kRA) ∧ (queue [0x45000000#32] kRA).turns = [] ∧
    (∃ t, step (queue [0x45000000#32] kRA) = .next t ∧ t.job = none) ∧ (queue [0x45000000#32] kRA).job = some ⟨0x1000#32, false, true⟩ ∧
    BlockInv kWRF ∧ kWRF.job = none ∧ kWRF.turns = [] ∧ ∃ t, step kWRF = .next t :=
  ⟨inv_queue inv_kRA rfl (by decide), rfl, ⟨_, rfl, by decide⟩, rfl, inv_kWRF, rfl, rfl, _, rfl⟩

theorem witness_ReceiveBufferGivenUpInRxDone :
    BlockInv kRA ∧ BlockInv (queue [0x42000001#32] kRF) ∧ (queue [0x42000001#32] kRF).turns = [] ∧
    (∃ t, step (queue [0x42000001#32] kRF) = .next t ∧ t.rxBuffer ≠ kRF.rxBuffer) ∧ kRF.rxBuffer ≠ noHandle :=
  ⟨inv_kRA, inv_queue inv_kRF rfl (by decide), rfl, ⟨_, rfl, by decide⟩, by decide⟩

theorem witness_FailedRequestWritesNothing :
    BlockInv (cs kTA) ∧ legality (.transmit 0x1000#32 true) (cs kTA) = some .failI ∧
    (Instr.transmit 0x1000#32 true).WellFormed ∧ (cs kTA).csHeld = true ∧ (∃ t, exec (.transmit 0x1000#32 true) (cs kTA) = .next t) ∧
    BlockInv (cs kWT) ∧ legality .cca (cs kWT) = some .failR ∧ BlockInv (cs kWRF) ∧ legality .cca (cs kWRF) = some .ok :=
  ⟨inv_cs inv_kTA, by decide, by decide, by decide, ⟨_, rfl⟩, inv_cs inv_kWT, by decide, inv_cs inv_kWRF, by decide⟩

theorem witness_RegisterWriters :
    (∃ t, exec .evTsRevoke kWRF = .next t ∧ t.tsGranted ≠ kWRF.tsGranted) ∧
    (∃ t, exec .csEnter kWRF = .next t ∧ t.csHeld ≠ kWRF.csHeld) ∧
    (∃ t, exec (.cfgSetChannel 0xFF#8) kWRF = .next t ∧ t.cfgChannel ≠ kWRF.cfgChannel) ∧
    (∃ t, exec (.cfgSetCca 0xFFFF#16) kWRF = .next t ∧ t.cfgCca ≠ kWRF.cfgCca) ∧
    (∃ t, exec (.energyDetection 0xFFFFFFFF#32) (cs kWRF) = .next t ∧ t.edTime ≠ kWRF.edTime) ∧
    (∃ t, exec .irqHandler (hostCalled [0x40000000#32] kWRF) = .next t ∧ t.evq ≠ [0x40000000#32] ∧ t.responses ≠ []) := by
  refine ⟨?_, ?_, ?_, ?_, ?_, _, rfl, by decide, by decide⟩ <;> exact ⟨_, rfl, by decide⟩

theorem witness_EventQueueIsFifo :
    (∃ t, step (turns [.radio 0x40000000#32] kWRF) = .next t ∧ t.evq = kWRF.evq ++ [0x40000000#32]) ∧
    (∃ t, step (turns [.dispatcher] (queue [0x40000000#32, 0x41000000#32] kWRF)) = .next t ∧ t.evq = [0x41000000#32]) ∧
    (∃ t, step (turns [.host 0x0C000000#32 0#32] (hostCalled [0x40000000#32, 0x41000000#32] kWRF)) = .next t ∧ t.evq = [0x41000000#32]) :=
  ⟨⟨_, rfl, by decide⟩, ⟨_, rfl, by decide⟩, _, rfl, by decide⟩

/-- Inside the critical section with one event pending. -/
def masked (t : Turn) : State := turns [t] (cs (bounded 1 (queue [0x40000000#32] kWRF)))

theorem witness_CriticalSectionMasksDispatch :
    (masked .dispatcher).csHeld = true ∧ (masked .dispatcher).turns = .dispatcher :: [] ∧
    (∃ t, step (masked .dispatcher) = .next t ∧ t.evq = [0x40000000#32]) ∧
    (∃ t, step (masked (.arbiter 0x61000000#32)) = .next t ∧ t.evq = [0x40000000#32, 0x61000000#32]) ∧
    (∃ t, step (masked (.radio 0x49000000#32)) = .next t ∧ t.fault = 0x01#8) ∧
    (∃ t, step { masked (.radio 0x40000000#32) with evq := [0x40000000#32, 0x40000000#32] } = .next t ∧ t.fault = 0x06#8) :=
  ⟨by decide, by decide, ⟨_, rfl, by decide⟩, ⟨_, rfl, by decide⟩, ⟨_, rfl, by decide⟩, _, rfl, by decide⟩

theorem witness_ConfigurationAppliedOnlyWhenIdle :
    (∃ t, step (queue [0x43000000#32] (deferring kTF)) = .next t ∧ t.hwChannel ≠ kTF.hwChannel ∧ t.hwCca ≠ kTF.hwCca ∧
      t.pendingChannel = false ∧ t.pendingCca = false) ∧
    (∃ t, step (queue [0x40000000#32] (deferring kTF)) = .next t ∧ t.state.cfgImmediate = false) ∧
    (deferring kTF).pendingChannel = true ∧ (deferring kTF).pendingCca = true ∧ (deferring kTF).turns = [] :=
  ⟨⟨_, rfl, by decide, by decide, by decide, by decide⟩, ⟨_, rfl, by decide⟩, by decide, by decide, by decide⟩

theorem witness_HostCalledDispatchAgrees :
    kWRF.params.irqDispatch = .autonomous ∧ (hostCalled [] kWRF).params.irqDispatch = .hostCalled ∧
    (queue [0x40000000#32] kWRF).fault = 0#8 ∧ (queue [0x40000000#32] kWRF).csHeld = false ∧
    (queue [0x40000000#32] kWRF).evq.all isEventWord = true ∧ (queue [0x40000000#32] kWRF).evq ≠ [] := by decide

theorem witness_DispatcherDrainsQueue :
    BlockInv (queue [0x40000000#32, 0x61000000#32] kWRF) ∧ (queue [0x40000000#32, 0x61000000#32] kWRF).fault = 0#8 ∧
    (queue [0x40000000#32, 0x61000000#32] kWRF).csHeld = false ∧
    (queue [0x40000000#32, 0x61000000#32] kWRF).params.irqDispatch = .autonomous ∧ (queue [0x40000000#32, 0x61000000#32] kWRF).turns = [] :=
  ⟨inv_queue inv_kWRF rfl (by decide), rfl, rfl, rfl, rfl⟩

theorem witness_OutputsOnlyGrow :
    (∃ t, step (queue [0x43000000#32] kTF) = .next t ∧ t.outLog ≠ kTF.outLog) ∧ (queue [0x43000000#32] kTF).turns = [] := ⟨⟨_, rfl, by decide⟩, by decide⟩

theorem witness_PowerStateTransitions :
    (∃ t, exec .cca (cs kSl1) = .next t ∧ (cs kSl1).state = .sleep ∧ t.state ≠ .sleep) ∧
    (∃ t, exec .evTsRevoke kDis = .next t ∧ kDis.state = .disabling ∧ t.state ≠ .disabling) ∧
    (∃ t, exec .sleep (cs kWRF) = .next t ∧ (cs kWRF).state ≠ .disabling ∧ t.state = .disabling) ∧
    (∃ t, exec .evDisabled kDis = .next t ∧ kDis.state ≠ .sleep ∧ t.state = .sleep) :=
  ⟨⟨_, rfl, by decide, by decide⟩, ⟨_, rfl, by decide, by decide⟩, ⟨_, rfl, by decide, by decide⟩, _, rfl, by decide, by decide⟩

theorem witness_DeferredReceiveReplay :
    (cs (pool 0#32 kSl1)).state = .sleep ∧ (cs (pool 0#32 kSl1)).csHeld = true ∧ (cs (pool 0#32 kSl1)).tsGranted = true ∧
    (cs (pool 0#32 kSl1)).rxBuffer = noHandle ∧ (cs (pool 0#32 kSl1)).poolAnswers = noHandle :: [] ∧
    0x00000001#32 ≠ noHandle ∧ 0xFFFFFFFF#32 ≠ noHandle := by decide

theorem witness_CarrierResumesAfterRevoke :
    kCC.state = .continuousCarrier ∧ kCC.pendingRx = false := by decide

theorem witness_OwedEventMovesBlockOn :
    Instr.evDisabled ∈ owed kDis.state ∧ Instr.evCcaComplete true ∈ owed kCB.state ∧ Instr.evCcaComplete false ∈ owed kCA.state ∧
    Instr.evTxComplete ∈ owed kTA.state ∧ Instr.evAckReceived true ∈ owed kRA.state ∧ Instr.evAckTimeout ∈ owed kRA.state ∧
    Instr.evEdComplete 0#8 ∈ owed kED.state ∧ Instr.evEdComplete 0xFF#8 ∈ owed kED.state := by
  refine ⟨by decide, by decide, by decide, by decide, by decide, by decide, ?_, ?_⟩ <;> exact List.mem_ofFn.mpr ⟨_, rfl⟩


end Sys2Proof.Tests
end

section
/-!
PROOFS. What an instruction writes and what it leaves: the frame of every rule, one inversion lemma for `exec` and one for `step`,
and the invariants of spec/10_state.md R42 to R48 over every step.
-/

namespace Sys2Proof.Proofs

open Sys2Proof.Machine Sys2Proof.Safety

/-! ## The frame of a rule -/

/-- `t` differs from `s` at most in the mode registers (R22 to R30 without `ts_granted`), in the applied configuration with its
deferrals, in the draws still to come, and by output records at the end of the log. -/
structure ModeStep (s t : State) : Prop where
  tsGranted : t.tsGranted = s.tsGranted
  csHeld : t.csHeld = s.csHeld
  cfgChannel : t.cfgChannel = s.cfgChannel
  cfgCca : t.cfgCca = s.cfgCca
  edTime : t.edTime = s.edTime
  evq : t.evq = s.evq
  fault : t.fault = s.fault
  params : t.params = s.params
  turns : t.turns = s.turns
  responses : t.responses = s.responses
  outLog : s.outLog <+: t.outLog

/-- A write of registers that a mode step may write. -/
theorem ModeStep.writes (s : State) (st : OpState) (b : Handle) (p : Bool) (r : Resume) (j : Option TxJob)
    (hc : BitVec 8) (pc : Bool) (ha : BitVec 16) (pa : Bool) (pool : List Handle) (abort ack : List Bool) (n : Nat) :
    ModeStep s { s with
      state := st, rxBuffer := b, pendingRx := p, resume := r, job := j, hwChannel := hc, pendingChannel := pc,
      hwCca := ha, pendingCca := pa, poolAnswers := pool, abortAnswers := abort, ackReqAnswers := ack, drawIx := n } :=
  ⟨rfl, rfl, rfl, rfl, rfl, rfl, rfl, rfl, rfl, rfl, List.prefix_refl _⟩

theorem ModeStep.refl (s : State) : ModeStep s s := ModeStep.writes s ..

theorem ModeStep.trans {s t u : State} (h : ModeStep s t) (g : ModeStep t u) : ModeStep s u where
  tsGranted := g.tsGranted.trans h.tsGranted
  csHeld := g.csHeld.trans h.csHeld
  cfgChannel := g.cfgChannel.trans h.cfgChannel
  cfgCca := g.cfgCca.trans h.cfgCca
  edTime := g.edTime.trans h.edTime
  evq := g.evq.trans h.evq
  fault := g.fault.trans h.fault
  params := g.params.trans h.params
  turns := g.turns.trans h.turns
  responses := g.responses.trans h.responses
  outLog := h.outLog.trans g.outLog

theorem ModeStep.out (s : State) (r : OutRec) : ModeStep s (s.out r) :=
  ⟨rfl, rfl, rfl, rfl, rfl, rfl, rfl, rfl, rfl, rfl, List.prefix_append _ _⟩

theorem ModeStep.settled (s : State) : ModeStep s (settled s) := ModeStep.writes s ..

theorem ModeStep.enterRxListen (s : State) : ModeStep s s.enterRxListen := by
  obtain ⟨pool, n, hdraw⟩ := bufferFor_frame s
  rw [enterRxListen_eq, armed, hdraw]
  exact ModeStep.writes s ..

/-! ## The invariants of the mode registers -/

/-- The clauses of `BlockInv` on the mode registers: R42 to R46, R48, R30 and log 13. -/
structure ModeInv (s : State) : Prop where
  job_iff_tx : s.job.isSome = s.state.txFamily
  active_granted : s.state.active = true → s.tsGranted = true
  listening_buffer :
    (s.state = .waitingRxFrame ∨ s.state = .rxHeader ∨ s.state = .rxFrame) → s.rxBuffer ≠ noHandle
  pending_waits : s.pendingRx = true → s.state = .waitingTimeslot ∧ s.rxBuffer = noHandle
  pending_iff_no_buffer :
    s.state = .waitingTimeslot → s.resume = .receive → (s.pendingRx = true ↔ s.rxBuffer = noHandle)
  suspended_waits : s.resume = .continuousCarrier → s.state = .waitingTimeslot ∧ s.tsGranted = false
  granted_waits_buffer : s.state = .waitingTimeslot → s.tsGranted = true → s.pendingRx = true
  suspended_not_pending : s.resume = .continuousCarrier → s.pendingRx = false
  job_frame : ∀ j, s.job = some j → j.frame ≠ noHandle

/-- The clauses of `BlockInv` on the event queue and the fault register: R108, R34, R201. -/
structure PortInv (s : State) : Prop where
  queue_decodes : ∀ e ∈ s.evq, isEventWord e = true
  queue_bounded : ∀ depth, s.params.evqDepth.capacity = some depth → s.evq.length ≤ depth
  fault_code : s.fault.toNat ≤ 7

/-- `BlockInv` in its three parts: the mode registers, R47, and the ports. -/
theorem blockInv_iff (s : State) : BlockInv s ↔
    ModeInv s ∧ (s.state.cfgImmediate = true → s.pendingChannel = false ∧ s.pendingCca = false) ∧ PortInv s where
  mp h := ⟨{ h with }, h.settled, { h with }⟩
  mpr := fun ⟨hmode, hsettled, hport⟩ => { hmode, hport with settled := hsettled }

theorem modeInv_of_blockInv {s : State} (h : BlockInv s) : ModeInv s := { h with }

/-- Outside WaitingTimeslot nothing is deferred or suspended, so that only R42 to R44 and R30 are left to check. -/
theorem modeInv_of_not_waiting {s : State} (hs : s.state ≠ .waitingTimeslot) (hp : s.pendingRx = false)
    (hr : s.resume = .receive) (hj : s.job.isSome = s.state.txFamily) (hf : ∀ j, s.job = some j → j.frame ≠ noHandle)
    (ha : s.state.active = true → s.tsGranted = true)
    (hl : (s.state = .waitingRxFrame ∨ s.state = .rxHeader ∨ s.state = .rxFrame) → s.rxBuffer ≠ noHandle) :
    ModeInv s where
  job_iff_tx := hj
  active_granted := ha
  listening_buffer := hl
  pending_waits := by simp [hp]
  pending_iff_no_buffer := fun h => absurd h hs
  suspended_waits := by simp [hr]
  granted_waits_buffer := fun h => absurd h hs
  suspended_not_pending := fun _ => hp
  job_frame := hf

namespace ModeInv

variable {s : State}

theorem pendingRx_false (hi : ModeInv s) (hs : s.state ≠ .waitingTimeslot) : s.pendingRx = false :=
  Bool.eq_false_iff.mpr fun hp => hs (hi.pending_waits hp).1

theorem resume_receive (hi : ModeInv s) (hs : s.state ≠ .waitingTimeslot) : s.resume = .receive := by
  cases hr : s.resume with
  | receive => rfl
  | continuousCarrier => exact absurd (hi.suspended_waits hr).1 hs

theorem resume_receive_of_pending (hi : ModeInv s) (hp : s.pendingRx = true) : s.resume = .receive := by
  cases hr : s.resume with
  | receive => rfl
  | continuousCarrier => exact absurd ((hi.suspended_not_pending hr).symm.trans hp) nofun

theorem job_none (hi : ModeInv s) (hs : s.state.txFamily = false) : s.job = none := by
  simpa [hs] using hi.job_iff_tx

theorem granted (hi : ModeInv s) (hs : s.state.active = true) : s.tsGranted = true := hi.active_granted hs

end ModeInv

/-- The listening path establishes the invariants from any state whose job is over (R104). -/
theorem modeInv_enterRxListen {s : State} (hj : s.job = none) : ModeInv s.enterRxListen := by
  obtain ⟨pool, n, hdraw⟩ := bufferFor_frame s
  rw [enterRxListen_eq, armed, hdraw]
  generalize (bufferFor s).1 = b
  by_cases hb : b = noHandle
  · constructor <;> simp [armedWith, hb, hj, OpState.txFamily, OpState.active]
  · cases s.tsGranted <;> constructor <;> simp [armedWith, hb, hj, OpState.txFamily, OpState.active]

/-! ## Rules that keep the frame and the invariants -/

/-- A rule that takes `s` to `t` keeps the frame, and the invariants of the mode registers. -/
structure KeepsMode (s t : State) : Prop where
  frame : ModeStep s t
  inv : ModeInv s → ModeInv t

theorem KeepsMode.refl (s : State) : KeepsMode s s := ⟨ModeStep.refl s, id⟩

theorem KeepsMode.trans {s t u : State} (h : KeepsMode s t) (g : KeepsMode t u) : KeepsMode s u :=
  ⟨h.frame.trans g.frame, fun hi => g.inv (h.inv hi)⟩

/-- A move between two states other than WaitingTimeslot keeps the invariants where the target asks no more than the source: the
same side of TxFamily, the timeslot only if the source has it, a buffer only if the source holds one (R42 to R44). -/
def mayMove (a b : OpState) : Bool :=
  a != .waitingTimeslot && b != .waitingTimeslot && b.txFamily == a.txFamily && (!b.active || a.active) &&
    (!(b == .waitingRxFrame || b == .rxHeader || b == .rxFrame) ||
      (a == .waitingRxFrame || a == .rxHeader || a == .rxFrame))

theorem KeepsMode.move {s : State} {a b : OpState} (hs : s.state = a) (h : mayMove a b = true) :
    KeepsMode s { s with state := b } := by
  refine ⟨ModeStep.writes s .., fun hi => ?_⟩
  simp only [mayMove, Bool.and_eq_true, Bool.or_eq_true, Bool.not_eq_true', bne_iff_ne, beq_iff_eq] at h
  obtain ⟨⟨⟨⟨ha, hb⟩, htx⟩, hact⟩, hlisten⟩ := h
  have hw : s.state ≠ .waitingTimeslot := hs ▸ ha
  refine modeInv_of_not_waiting hb (hi.pendingRx_false hw) (hi.resume_receive hw) ?_ hi.job_frame ?_ ?_
  · exact hi.job_iff_tx.trans (by rw [hs]; exact htx.symm)
  · intro hba
    exact hi.granted (by rw [hs]; exact hact.resolve_left (by simp [show b.active = true from hba]))
  · intro hbl
    refine hi.listening_buffer ?_
    rw [hs]
    rcases hlisten with hn | hal
    · rcases hbl with rfl | rfl | rfl <;> cases hn
    · exact or_assoc.mp hal

/-- A rule whose writes leave no job and that then takes the listening path. -/
theorem KeepsMode.listen {s t : State} (h : ModeStep s t) (hj : ModeInv s → t.job = none) :
    KeepsMode s t.enterRxListen :=
  ⟨h.trans (ModeStep.enterRxListen t), fun hi => modeInv_enterRxListen (hj hi)⟩

/-- The end of a job (R106). -/
theorem KeepsMode.completeJob (s : State) (o : TxOutcome) : KeepsMode s (s.completeJob o) :=
  KeepsMode.listen ((ModeStep.out s _).trans (ModeStep.writes (s.out _) ..)) fun _ => rfl

/-- The draws of the model are no registers. -/
theorem KeepsMode.draws (s : State) (pool : List Handle) (abort ack : List Bool) (n : Nat) :
    KeepsMode s { s with poolAnswers := pool, abortAnswers := abort, ackReqAnswers := ack, drawIx := n } :=
  ⟨ModeStep.writes s .., fun hi => { hi with }⟩

/-- A deferred or applied configuration value is no mode register. -/
theorem KeepsMode.applies (s : State) (hc : BitVec 8) (pc : Bool) (ha : BitVec 16) (pa : Bool) :
    KeepsMode s { s with hwChannel := hc, pendingChannel := pc, hwCca := ha, pendingCca := pa } :=
  ⟨ModeStep.writes s .., fun hi => { hi with }⟩

theorem KeepsMode.settled (s : State) : KeepsMode s (settled s) := KeepsMode.applies s ..

/-! ### Radio events -/

theorem rxStartRule_keeps (s : State) : KeepsMode s (rxStartRule s) := by
  unfold rxStartRule
  cases hs : s.state with
  | waitingRxFrame => exact .move hs rfl
  | _ => exact .refl s

theorem rxAddrMatchRule_keeps (addressed : Bool) (s : State) : KeepsMode s (rxAddrMatchRule addressed s) := by
  unfold rxAddrMatchRule
  cases hs : s.state with
  | rxHeader =>
    cases addressed with
    | true => exact .move hs rfl
    | false => exact .move hs rfl
  | _ => exact .refl s

theorem rxCompleteRule_keeps (ackRequested : Bool) (s : State) : KeepsMode s (rxCompleteRule ackRequested s) := by
  unfold rxCompleteRule
  have up : ∀ st, ModeStep s { s.out (.rxDone s.rxBuffer) with rxBuffer := noHandle, state := st } := fun st =>
    (ModeStep.out s _).trans (ModeStep.writes (s.out _) ..)
  cases hs : s.state with
  | rxFrame =>
    have hw : s.state ≠ .waitingTimeslot := by simp [hs]
    have hj : ModeInv s → s.job = none := fun hi => hi.job_none (by simp [hs, OpState.txFamily])
    cases ackRequested with
    | true =>
      refine ⟨up .txAck, fun hi => modeInv_of_not_waiting nofun (hi.pendingRx_false hw) (hi.resume_receive hw) ?_
        hi.job_frame (fun _ => hi.granted (by rw [hs]; rfl)) nofun⟩
      simp [hj hi, OpState.txFamily]
    | false => exact .listen (up s.state) hj
  | _ => exact .refl s

theorem txCompleteRule_keeps (s : State) : KeepsMode s (txCompleteRule s) := by
  unfold txCompleteRule
  cases hs : s.state with
  | txFrame =>
    dsimp only
    split
    · exact .move hs rfl
    · exact .completeJob s _
  | txAck => exact .listen (.refl s) fun hi => hi.job_none (by rw [hs]; rfl)
  | _ => exact .refl s

theorem ackReceivedRule_keeps (matching : Bool) (s : State) : KeepsMode s (ackReceivedRule matching s) := by
  unfold ackReceivedRule
  cases hs : s.state with
  | rxAck =>
    cases matching with
    | true => exact .completeJob s _
    | false => exact .refl s
  | _ => exact .refl s

theorem ackTimeoutRule_keeps (s : State) : KeepsMode s (ackTimeoutRule s) := by
  unfold ackTimeoutRule
  cases hs : s.state with
  | rxAck => exact .completeJob s _
  | _ => exact .refl s

theorem edCompleteRule_keeps (energy : BitVec 8) (s : State) : KeepsMode s (edCompleteRule energy s) := by
  unfold edCompleteRule
  cases hs : s.state with
  | energyDetection => exact .listen (.out s _) fun hi => hi.job_none (by rw [hs]; rfl)
  | _ => exact .refl s

theorem ccaCompleteRule_keeps (busy : Bool) (s : State) : KeepsMode s (ccaCompleteRule busy s) := by
  unfold ccaCompleteRule
  cases hs : s.state with
  | ccaBeforeTx =>
    cases busy with
    | true => exact .completeJob s _
    | false => exact .move hs rfl
  | cca => exact .listen (.out s _) fun hi => hi.job_none (by rw [hs]; rfl)
  | _ => exact .refl s

theorem disabledRule_keeps (s : State) : KeepsMode s (disabledRule s) := by
  unfold disabledRule
  cases hs : s.state with
  | disabling => exact .move hs rfl
  | _ => exact .refl s

/-! ### Arbiter events, which write `ts_granted` first -/

/-- A change of `ts_granted` keeps the invariants of a block that does not wait for it, if no Active state loses it. -/
theorem modeInv_write_tsGranted {s : State} {b : Bool} (hi : ModeInv s) (hw : s.state ≠ .waitingTimeslot)
    (ha : s.state.active = true → b = true) : ModeInv { s with tsGranted := b } :=
  modeInv_of_not_waiting hw (hi.pendingRx_false hw) (hi.resume_receive hw) hi.job_iff_tx hi.job_frame ha
    hi.listening_buffer

/-- A grant to a block that does not wait for it (R180). -/
theorem tsGrantRule_not_waiting {s : State} (hs : s.state ≠ .waitingTimeslot) :
    tsGrantRule s = { s with tsGranted := true } := by
  unfold tsGrantRule
  cases hst : s.state with
  | waitingTimeslot => exact absurd hst hs
  | _ => rfl

/-- A grant in WaitingTimeslot (R180). -/
theorem tsGrantRule_waiting {s : State} (hs : s.state = .waitingTimeslot) :
    tsGrantRule s =
      if s.resume = .continuousCarrier then { s with tsGranted := true, resume := .receive, state := .continuousCarrier }
      else if s.pendingRx then { s with tsGranted := true } else State.enterRxListen { s with tsGranted := true } := by
  simp only [tsGrantRule, hs]

theorem tsGrantRule_frame (s : State) : ModeStep { s with tsGranted := true } (tsGrantRule s) := by
  by_cases hs : s.state = .waitingTimeslot
  · rw [tsGrantRule_waiting hs]
    split
    · exact .writes { s with tsGranted := true } ..
    · split
      · exact .refl _
      · exact .enterRxListen _
  · rw [tsGrantRule_not_waiting hs]
    exact .refl _

theorem tsGrantRule_inv {s : State} (hi : ModeInv s) : ModeInv (tsGrantRule s) := by
  by_cases hs : s.state = .waitingTimeslot
  · have hj : s.job = none := hi.job_none (by rw [hs]; rfl)
    rw [tsGrantRule_waiting hs]
    split
    next hr =>
      exact modeInv_of_not_waiting nofun (hi.suspended_not_pending hr) rfl (by simp [hj, OpState.txFamily]) hi.job_frame
        (fun _ => rfl) nofun
    next hr =>
      split
      next hp =>
        exact { hi with
          active_granted := fun _ => rfl
          suspended_waits := fun h => absurd h hr
          granted_waits_buffer := fun _ _ => hp }
      next => exact modeInv_enterRxListen hj
  · rw [tsGrantRule_not_waiting hs]
    exact modeInv_write_tsGranted hi hs fun _ => rfl

theorem tsRevokeRule_frame (s : State) : ModeStep { s with tsGranted := false } (tsRevokeRule s) := by
  unfold tsRevokeRule
  generalize { s with tsGranted := false } = r
  dsimp only
  cases r.state with
  | sleep | waitingTimeslot => exact .refl r
  | disabling | continuousCarrier => exact .writes r ..
  | waitingRxFrame | rxHeader | rxFrame | txAck =>
    dsimp only
    rw [dropIfReceiving_eq]
    exact .enterRxListen r
  | ccaBeforeTx | txFrame | rxAck => exact (KeepsMode.completeJob r _).frame
  | energyDetection | cca => exact (ModeStep.out r _).trans (.enterRxListen _)

/-- A revoke in a state without a procedure to end (R181). -/
theorem tsRevokeRule_stays {s : State} (hs : s.state = .sleep ∨ s.state = .waitingTimeslot) :
    tsRevokeRule s = { s with tsGranted := false } := by
  rcases hs with hs | hs <;> simp only [tsRevokeRule, hs]

theorem tsRevokeRule_inv {s : State} (hi : ModeInv s) : ModeInv (tsRevokeRule s) := by
  cases hs : s.state with
  | sleep =>
    rw [tsRevokeRule_stays (.inl hs)]
    exact modeInv_write_tsGranted hi (by rw [hs]; nofun) (by rw [hs]; nofun)
  | waitingTimeslot =>
    rw [tsRevokeRule_stays (.inr hs)]
    exact { hi with
      active_granted := by simp [hs, OpState.active]
      suspended_waits := fun _ => ⟨hs, rfl⟩
      granted_waits_buffer := nofun }
  | disabling =>
    have hw : s.state ≠ .waitingTimeslot := by simp [hs]
    have hj : s.job = none := hi.job_none (by rw [hs]; rfl)
    simp only [tsRevokeRule, hs]
    exact modeInv_of_not_waiting nofun (hi.pendingRx_false hw) (hi.resume_receive hw) (by simp [hj, OpState.txFamily])
      hi.job_frame nofun nofun
  | waitingRxFrame | rxHeader | rxFrame | txAck =>
    simp only [tsRevokeRule, hs, dropIfReceiving_eq]
    exact modeInv_enterRxListen (hi.job_none (by rw [hs]; rfl))
  | ccaBeforeTx | txFrame | rxAck =>
    simp only [tsRevokeRule, hs]
    exact modeInv_enterRxListen rfl
  | energyDetection | cca =>
    simp only [tsRevokeRule, hs]
    exact modeInv_enterRxListen (hi.job_none (by rw [hs]; rfl))
  | continuousCarrier =>
    have hp : s.pendingRx = false := hi.pendingRx_false (by rw [hs]; nofun)
    have hj : s.job = none := hi.job_none (by rw [hs]; rfl)
    simp only [tsRevokeRule, hs]
    constructor <;> simp [hp, hj, OpState.txFamily, OpState.active]

/-! ### Transition requests and NOTIFY_BUFFER_FREE -/

/-- The writes of a SLEEP that succeeds, in a state outside TxFamily (R120). -/
theorem powerDown_keeps {s : State} (hs : s.state.txFamily = false) : KeepsMode s s.powerDown :=
  ⟨.writes s .., fun hi => modeInv_of_not_waiting nofun rfl rfl (by simp [hi.job_none hs, OpState.txFamily]) hi.job_frame
    nofun nofun⟩

theorem drawAbortable_keeps (s : State) : KeepsMode s s.drawAbortable.2 := by
  obtain ⟨rest, n, hdraw⟩ := drawAbortable_frame s
  rw [hdraw]
  exact .draws s ..

theorem sleepRule_keeps (s : State) : KeepsMode s (sleepRule s).1 := by
  unfold sleepRule
  cases hs : s.state with
  | waitingTimeslot =>
    dsimp only
    split
    · exact powerDown_keeps (by rw [hs]; rfl)
    · exact .refl s
  | waitingRxFrame => exact powerDown_keeps (by rw [hs]; rfl)
  | rxHeader =>
    obtain ⟨rest, n, hdraw⟩ := drawAbortable_frame s
    dsimp only
    split
    · refine (drawAbortable_keeps s).trans (powerDown_keeps ?_)
      rw [hdraw, hs]
      rfl
    · exact drawAbortable_keeps s
  | _ => exact .refl s

theorem receiveRule_keeps (s : State) : KeepsMode s (receiveRule s).1 := by
  unfold receiveRule
  have listens : s.state.txFamily = false → KeepsMode s s.enterRxListen := fun hs =>
    .listen (.refl s) fun hi => hi.job_none hs
  cases hs : s.state with
  | sleep | continuousCarrier => exact listens (by rw [hs]; rfl)
  | waitingTimeslot =>
    dsimp only
    split
    · exact listens (by rw [hs]; rfl)
    · exact .refl s
  | _ => exact .refl s

/-- The writes of a TRANSMIT that succeeds, in an Active state (R122). -/
theorem startJob_keeps {s : State} {frame : Handle} (c : Bool) (hf : frame ≠ noHandle) (hs : s.state.active = true) :
    KeepsMode s (s.startJob frame c) := by
  obtain ⟨rest, n, hdraw⟩ := drawAckRequested_frame s frame
  unfold State.startJob
  rw [hdraw]
  refine ⟨.writes s .., fun hi => ?_⟩
  have hw : s.state ≠ .waitingTimeslot := fun h => by simp [h, OpState.active] at hs
  refine modeInv_of_not_waiting ?_ (hi.pendingRx_false hw) (hi.resume_receive hw) ?_ ?_ (fun _ => hi.granted hs) ?_
  · cases c <;> nofun
  · cases c <;> rfl
  · rintro j ⟨⟩
    exact hf
  · cases c <;> nofun

theorem transmitRule_keeps {frame : Handle} (c : Bool) (s : State) (hf : frame ≠ noHandle) :
    KeepsMode s (transmitRule frame c s).1 := by
  unfold transmitRule
  cases hs : s.state with
  | waitingRxFrame | rxHeader | rxFrame => exact startJob_keeps c hf (by rw [hs]; rfl)
  | _ => exact .refl s

/-- Where a probe may start, the block has the timeslot and no job (R111 with R42, R43). -/
theorem granted_of_probe_legal {s : State} (hi : ModeInv s) (h : s.probeSourceCheck = .legal) :
    s.tsGranted = true ∧ s.job = none := by
  rcases (probeSourceCheck_legal s).mp h with hs | hs | hs | hs | ⟨hs, hg⟩ | ⟨hs, -, hg⟩
  case inr.inr.inr.inr.inl | inr.inr.inr.inr.inr => exact ⟨hg, hi.job_none (by rw [hs]; rfl)⟩
  all_goals exact ⟨hi.granted (by rw [hs]; rfl), hi.job_none (by rw [hs]; rfl)⟩

/-- A probe or the carrier, started where R111 allows it (R110). -/
theorem startProbe_inv {s : State} {target : OpState} (hi : ModeInv s) (h : s.probeSourceCheck = .legal)
    (ht : mayMove .cca target = true) : ModeInv (s.startProbe target) := by
  obtain ⟨hg, hj⟩ := granted_of_probe_legal hi h
  rw [startProbe_eq]
  cases target with
  | waitingTimeslot | waitingRxFrame | rxHeader | rxFrame | ccaBeforeTx | txFrame | rxAck => cases ht
  | _ => exact modeInv_of_not_waiting nofun rfl rfl (by simp [hj, OpState.txFamily]) hi.job_frame (fun _ => hg) nofun

theorem startProbe_frame (s : State) (target : OpState) : ModeStep s (s.startProbe target) := by
  rw [startProbe_eq]
  exact .writes s ..

/-- CCA and CONTINUOUS_CARRIER (R124, R125). -/
theorem probeRule_keeps (s : State) {target : OpState} (ht : mayMove .cca target = true) :
    KeepsMode s (probeRule s (s.startProbe target)).1 := by
  unfold probeRule
  cases h : s.probeSourceCheck with
  | legal => exact ⟨startProbe_frame s target, fun hi => startProbe_inv hi h ht⟩
  | fails r => exact .refl s

theorem notifyBufferFreeRule_keeps {b : Handle} (s : State) (hb : b ≠ noHandle) :
    KeepsMode s (notifyBufferFreeRule b s).1 := by
  unfold notifyBufferFreeRule
  cases ha : s.idleArmed with
  | false => exact .refl s
  | true =>
    refine ⟨.writes s .., fun hi => ?_⟩
    simp only [State.idleArmed, Bool.and_eq_true, beq_iff_eq] at ha
    obtain ⟨hs, hp⟩ := ha
    have hr := hi.resume_receive_of_pending hp
    have hj := hi.job_none (by rw [hs]; rfl)
    cases s.tsGranted <;> constructor <;> simp [hb, hr, hj, OpState.txFamily, OpState.active]

end Sys2Proof.Proofs
end

section
/-!
PROOFS. What an instruction and a step can do, once each, and the statements on the registers and on whole runs that follow.
-/

namespace Sys2Proof.Proofs

open Sys2Proof.Machine Sys2Proof.Safety

/-! ## What an instruction does -/

/-- The write of an instruction to a register that no `ModeStep` writes: the rest of its rule is one. IRQ_HANDLER has none of its
own. -/
def ownWrite (i : Instr) (s : State) : State :=
  match i with
  | .energyDetection t => if s.probeSourceCheck = .legal then { s with edTime := t } else s
  | .csEnter => { s with csHeld := true }
  | .csExit => { s with csHeld := false }
  | .cfgSetChannel ch => { s with cfgChannel := ch }
  | .cfgSetCca cfg => { s with cfgCca := cfg }
  | .evTsGrant => { s with tsGranted := true }
  | .evTsRevoke => { s with tsGranted := false }
  | .sleep | .receive | .transmit _ _ | .cca | .continuousCarrier => s
  | .currentState | .notifyBufferFree _ | .channelUpdate | .ccaCfgUpdate | .irqHandler => s
  | .evRxStart | .evRxAddrMatch _ | .evRxComplete _ | .evTxComplete | .evAckReceived _ => s
  | .evAckTimeout | .evEdComplete _ | .evCcaComplete _ | .evDisabled => s

/-- The five registers an instruction's own write may change. -/
theorem ownWrite_frame (i : Instr) (s : State) : ∃ ts cs ch cfg d,
    ownWrite i s = { s with tsGranted := ts, csHeld := cs, cfgChannel := ch, cfgCca := cfg, edTime := d } := by
  cases i with
  | energyDetection d =>
    unfold ownWrite
    dsimp only
    split
    · exact ⟨_, _, _, _, _, rfl⟩
    · exact ⟨_, _, _, _, _, rfl⟩
  | _ => exact ⟨_, _, _, _, _, rfl⟩

/-- An event's own write is to `ts_granted` at most. -/
theorem ownWrite_event {i : Instr} (h : i.isEvent = true) (s : State) : ∃ ts, ownWrite i s = { s with tsGranted := ts } := by
  cases i with
  | sleep | receive | transmit | energyDetection | cca | continuousCarrier | currentState | notifyBufferFree
  | channelUpdate | ccaCfgUpdate | irqHandler | csEnter | csExit | cfgSetChannel | cfgSetCca => cases h
  | _ => exact ⟨_, rfl⟩

/-- The instruction takes `s` to `u`, before `settle()` and the response: its own write and a mode step, and the invariants of the
mode registers are kept. -/
structure InstrKeeps (i : Instr) (s u : State) : Prop where
  frame : ModeStep (ownWrite i s) u
  inv : ModeInv s → ModeInv u

theorem InstrKeeps.of_keepsMode {i : Instr} {s u : State} (h : KeepsMode s u) (ho : ownWrite i s = s) :
    InstrKeeps i s u :=
  ⟨ho.symm ▸ h.frame, h.inv⟩

theorem performEvent_keeps {i : Instr} {s u : State} (h : performEvent i s = some u) : InstrKeeps i s u := by
  cases i with
  | evRxStart => cases h; exact .of_keepsMode (rxStartRule_keeps s) rfl
  | evRxAddrMatch f => cases h; exact .of_keepsMode (rxAddrMatchRule_keeps f s) rfl
  | evRxComplete f => cases h; exact .of_keepsMode (rxCompleteRule_keeps f s) rfl
  | evTxComplete => cases h; exact .of_keepsMode (txCompleteRule_keeps s) rfl
  | evAckReceived f => cases h; exact .of_keepsMode (ackReceivedRule_keeps f s) rfl
  | evAckTimeout => cases h; exact .of_keepsMode (ackTimeoutRule_keeps s) rfl
  | evEdComplete v => cases h; exact .of_keepsMode (edCompleteRule_keeps v s) rfl
  | evCcaComplete f => cases h; exact .of_keepsMode (ccaCompleteRule_keeps f s) rfl
  | evDisabled => cases h; exact .of_keepsMode (disabledRule_keeps s) rfl
  | evTsGrant => cases h; exact ⟨tsGrantRule_frame s, tsGrantRule_inv⟩
  | evTsRevoke => cases h; exact ⟨tsRevokeRule_frame s, tsRevokeRule_inv⟩
  | _ => cases h

/-- ENERGY_DETECTION (R123) writes `ed_time` exactly where R111 allows it to start. -/
theorem energyDetectionRule_keeps (d : Word) (s : State) :
    InstrKeeps (.energyDetection d) s (probeRule s (State.startProbe { s with edTime := d } .energyDetection)).1 := by
  unfold probeRule
  cases h : s.probeSourceCheck with
  | legal =>
    refine ⟨?_, fun hi => startProbe_inv (s := { s with edTime := d }) { hi with } h rfl⟩
    rw [ownWrite, if_pos h]
    exact startProbe_frame _ _
  | fails r => exact .of_keepsMode (.refl s) (by rw [ownWrite, if_neg (by rw [h]; nofun)])

/-- Every command with legal operands; IRQ_HANDLER performs an event and is treated in `irqHandler_effect`. -/
theorem commandRule_keeps {i : Instr} {s u : State} {w : Word} (hw : i.WellFormed) (hi : i ≠ .irqHandler)
    (h : commandRule i s = some (u, w)) : InstrKeeps i s u := by
  have rule : ∀ r : State × Word, some r = some (u, w) → r.1 = u := fun r hr => by cases hr; rfl
  cases i with
  | sleep => exact rule _ h ▸ .of_keepsMode (sleepRule_keeps s) rfl
  | receive => exact rule _ h ▸ .of_keepsMode (receiveRule_keeps s) rfl
  | transmit frame c =>
    have hf : frame ≠ noHandle := by simpa [Instr.WellFormed, Instr.illFormed] using hw
    exact rule _ h ▸ .of_keepsMode (transmitRule_keeps c s hf) rfl
  | energyDetection d => exact rule _ h ▸ energyDetectionRule_keeps d s
  | cca => exact rule _ h ▸ .of_keepsMode (probeRule_keeps s rfl) rfl
  | continuousCarrier => exact rule _ h ▸ .of_keepsMode (probeRule_keeps s rfl) rfl
  | currentState => exact rule _ h ▸ .of_keepsMode (.refl s) rfl
  | notifyBufferFree b =>
    have hb : b ≠ noHandle := by simpa [Instr.WellFormed, Instr.illFormed] using hw
    exact rule _ h ▸ .of_keepsMode (notifyBufferFreeRule_keeps s hb) rfl
  | channelUpdate | ccaCfgUpdate => exact rule _ h ▸ .of_keepsMode (.applies s ..) rfl
  | irqHandler => exact absurd rfl hi
  | csEnter | csExit | cfgSetChannel | cfgSetCca => exact rule _ h ▸ ⟨.refl _, fun hm => { hm with }⟩
  | _ => cases h

/-- A null handle faults before anything else is read (R102 check 3). -/
theorem exec_of_illFormed {i : Instr} (h : ¬ i.WellFormed) (s : State) :
    i.isEvent = false ∧ exec i s = .next (s.raiseFault .nullHandle) := by
  cases i with
  | transmit frame c =>
    have hf : frame = noHandle := by simpa [Instr.WellFormed, Instr.illFormed] using h
    subst hf
    exact ⟨rfl, rfl⟩
  | notifyBufferFree b =>
    have hb : b = noHandle := by simpa [Instr.WellFormed, Instr.illFormed] using h
    subst hb
    exact ⟨rfl, rfl⟩
  | _ => exact absurd rfl h

/-- Everything an instruction that answers a next state can have done. -/
inductive InstrEffect : Instr → State → State → Prop where
  /-- A command raised a fault (R200). -/
  | faulted {i : Instr} {s : State} (c : FaultCode) (he : i.isEvent = false) : InstrEffect i s (s.raiseFault c)
  /-- A command ran its rule and answered (R102); of IRQ_HANDLER, the case of the empty queue (R144). -/
  | command {i : Instr} {s u : State} (w : Word) (he : i.isEvent = false) (hk : InstrKeeps i s u) :
      InstrEffect i s ((settled u).respond w)
  /-- IRQ_HANDLER performed the event at the head of the queue (R144). -/
  | handler {j : Instr} {s u : State} {e : Word} {rest : List Word} (hm : s.params.irqDispatch = .hostCalled)
      (hc : s.csHeld = false) (hq : s.evq = e :: rest) (he : j.isEvent = true)
      (hk : InstrKeeps j { s with evq := rest } u) : InstrEffect .irqHandler s ((settled u).respond respOk)
  /-- An event was performed (R101). -/
  | event {i : Instr} {s u : State} (he : i.isEvent = true) (hk : InstrKeeps i s u) : InstrEffect i s (settled u)

/-- The event that IRQ_HANDLER performs (R144). -/
theorem performHead_keeps {s u : State} {e : Word} {rest : List Word} (hq : s.evq = e :: rest)
    (h : performHead e s = some u) : ∃ j, j.isEvent = true ∧ InstrKeeps j { s with evq := rest } u := by
  unfold performHead at h
  cases hd : decodeEv e with
  | error x => rw [hd] at h; cases h
  | ok j =>
    rw [hd] at h
    have hk := performEvent_keeps h
    rw [State.dropHead, hq, List.tail_cons] at hk
    exact ⟨j, decodeEv_isEvent hd, hk⟩

theorem irqHandler_effect {s t : State} (h : exec .irqHandler s = .next t) : InstrEffect .irqHandler s t := by
  simp only [exec, execIrqHandler] at h
  split at h
  next => cases h; exact .faulted _ rfl
  next hm =>
    split at h
    next => cases h; exact .faulted _ rfl
    next hc =>
      have hm : s.params.irqDispatch = .hostCalled := by
        cases hd : s.params.irqDispatch with
        | autonomous => exact absurd hd hm
        | hostCalled => rfl
      unfold irqHandlerRule at h
      split at h
      next =>
        rw [finish, settle_eq] at h
        cases h
        exact .command _ rfl (.of_keepsMode (.refl s) rfl)
      next e rest hq =>
        split at h
        next u hu =>
          rw [finish, settle_eq] at h
          cases h
          obtain ⟨j, he, hk⟩ := performHead_keeps hq hu
          exact .handler hm (Bool.eq_false_iff.mpr hc) hq he hk
        next => cases h

/-- The inversion of `exec`. -/
theorem exec_effect {i : Instr} {s t : State} (h : exec i s = .next t) : InstrEffect i s t := by
  by_cases hi : i = .irqHandler
  · subst hi
    exact irqHandler_effect h
  · by_cases hw : i.WellFormed
    · rcases exec_next_cases h with ⟨he, c, rfl⟩ | ⟨he, u, w, hr, rfl⟩ | ⟨he, u, hp, rfl⟩
      · exact .faulted c he
      · exact .command w he (commandRule_keeps hw hi hr)
      · exact .event he (performEvent_keeps hp)
    · obtain ⟨he, hf⟩ := exec_of_illFormed hw s
      cases hf.symm.trans h
      exact .faulted _ he

/-! ## Which instructions write which registers -/

/-- The only instructions that change a register which no mode step writes. -/
theorem writers_of_ownWrite {i : Instr} {s t : State} (h : ModeStep (ownWrite i s) t) :
    (t.tsGranted ≠ s.tsGranted → i = .evTsGrant ∨ i = .evTsRevoke) ∧
    (t.csHeld ≠ s.csHeld → i = .csEnter ∨ i = .csExit) ∧
    (t.cfgChannel ≠ s.cfgChannel → ∃ ch, i = .cfgSetChannel ch) ∧
    (t.cfgCca ≠ s.cfgCca → ∃ cfg, i = .cfgSetCca cfg) ∧
    (t.edTime ≠ s.edTime → ∃ d, i = .energyDetection d) := by
  rw [h.tsGranted, h.csHeld, h.cfgChannel, h.cfgCca, h.edTime]
  cases i with
  | energyDetection d =>
    unfold ownWrite
    dsimp only
    split <;> simp
  | _ => simp [ownWrite]

/-- What no rule writes, before the response and once the head is off the queue; the output log only grows. -/
structure Untouched (s t : State) : Prop where
  evq : t.evq = s.evq
  fault : t.fault = s.fault
  params : t.params = s.params
  turns : t.turns = s.turns
  responses : t.responses = s.responses
  outLog : s.outLog <+: t.outLog

theorem InstrKeeps.untouched {i : Instr} {s u : State} (h : InstrKeeps i s u) : Untouched s (settled u) := by
  have hf := h.frame.trans (.settled u)
  obtain ⟨ts, cs, ch, cfg, d, ho⟩ := ownWrite_frame i s
  rw [ho] at hf
  exact { hf with }

/-- An event writes, of the registers outside a mode step, `ts_granted` alone. -/
theorem event_frame {i : Instr} {s t : State} (he : i.isEvent = true) (h : ModeStep (ownWrite i s) t) :
    t.csHeld = s.csHeld ∧ t.cfgChannel = s.cfgChannel ∧ t.cfgCca = s.cfgCca ∧ t.edTime = s.edTime := by
  obtain ⟨ts, ho⟩ := ownWrite_event he s
  rw [ho] at h
  exact ⟨h.csHeld, h.cfgChannel, h.cfgCca, h.edTime⟩

/-- Settles O50, by the four effects an instruction can have. -/
theorem registerWriters : Obligations.RegisterWriters := by
  intro i s t h
  cases exec_effect h with
  | faulted c he => simp
  | command w he hk =>
    have hf := hk.frame.trans (.settled _)
    obtain ⟨hts, hcs, hch, hcca, hed⟩ := writers_of_ownWrite hf
    have hu := hk.untouched
    exact ⟨fun g => (hts g).imp_right .inl, hcs, hch, hcca, hed, fun g => absurd hu.evq g, fun _ => he, hu.params, hu.turns⟩
  | handler hm hc hq he hk =>
    have hf := hk.frame.trans (.settled _)
    obtain ⟨hcs, hch, hcca, hed⟩ := event_frame he hf
    have hu := hk.untouched
    exact ⟨fun _ => .inr (.inr rfl), fun g => absurd hcs g, fun g => absurd hch g, fun g => absurd hcca g,
      fun g => absurd hed g, fun _ => rfl, fun _ => rfl, hu.params, hu.turns⟩
  | event he hk =>
    have hf := hk.frame.trans (.settled _)
    obtain ⟨hts, hcs, hch, hcca, hed⟩ := writers_of_ownWrite hf
    have hu := hk.untouched
    exact ⟨fun g => (hts g).imp_right .inl, hcs, hch, hcca, hed, fun g => absurd hu.evq g, fun g => absurd hu.responses g,
      hu.params, hu.turns⟩

/-- What an instruction does to the queue: nothing, unless it is IRQ_HANDLER, which takes the head (R144). -/
theorem exec_evq {i : Instr} {s t : State} (h : exec i s = .next t) :
    t.evq = s.evq ∨ i = .irqHandler ∧ s.params.irqDispatch = .hostCalled ∧ s.csHeld = false ∧ ∃ e, s.evq = e :: t.evq := by
  cases exec_effect h with
  | faulted c he => exact .inl rfl
  | command w he hk => exact .inl hk.untouched.evq
  | @handler j _ u e rest hm hc hq he hk =>
    have hu : u.evq = rest := hk.untouched.evq
    exact .inr ⟨rfl, hm, hc, e, by rw [hq, ← hu]; rfl⟩
  | event he hk => exact .inl hk.untouched.evq

/-- Every instruction only appends to the two logs (R36; log 9). -/
theorem exec_logs_grow {i : Instr} {s t : State} (h : exec i s = .next t) :
    s.outLog <+: t.outLog ∧ s.responses <+: t.responses := by
  have grow : ∀ {j : Instr} {r u : State} (w : Word), InstrKeeps j r u →
      r.outLog <+: ((settled u).respond w).outLog ∧ r.responses <+: ((settled u).respond w).responses := by
    intro j r u w hk
    refine ⟨hk.untouched.outLog, ?_⟩
    rw [respond_responses, hk.untouched.responses]
    exact List.prefix_append _ _
  cases exec_effect h with
  | faulted c he => exact ⟨List.prefix_refl _, List.prefix_refl _⟩
  | command w he hk => exact grow w hk
  | handler hm hc hq he hk => exact (grow respOk hk :)
  | event he hk =>
    exact ⟨hk.untouched.outLog, hk.untouched.responses ▸ List.prefix_refl _⟩

/-! ## What a step does -/

/-- Everything a step that answers a next state can have done. -/
inductive StepEffect (s : State) : State → Prop where
  /-- The step was not enabled, and its turn is passed over (log 1). -/
  | idle : StepEffect s { s with turns := s.turns.tail }
  /-- The step raised a fault before any instruction (R76, R81, R210). -/
  | faulted (c : FaultCode) : StepEffect s (State.raiseFault { s with turns := s.turns.tail } c)
  /-- A source delivered an event word (R210). -/
  | delivered {e : Word} {rest : List Turn} (ht : s.turns = .radio e :: rest ∨ s.turns = .arbiter e :: rest)
      (he : isEventWord e = true) (hq : s.queueFull = false) : StepEffect s (State.enqueue { s with turns := rest } e)
  /-- The host's command was executed (R102). -/
  | command {w a : Word} {rest : List Turn} {i : Instr} {t : State} (ht : s.turns = .host w a :: rest)
      (hf : s.fault = 0#8) (hd : decodeCmd s.params.irqDispatch w a = .ok i)
      (hx : exec i { s with turns := rest } = .next t) : StepEffect s t
  /-- The head of the queue was dispatched (R101), by the dispatcher's turn or with no turn left (log 2). -/
  | dispatched {e : Word} {rest : List Word} {i : Instr} {t : State}
      (ht : s.turns = [] ∨ ∃ turns, s.turns = .dispatcher :: turns) (hen : s.dispatchEnabled = true)
      (hq : s.evq = e :: rest) (hd : decodeEv e = .ok i)
      (hx : exec i { s with turns := s.turns.tail, evq := rest } = .next t) : StepEffect s t
  /-- Reset (R230). -/
  | reset {rest : List Turn} (ht : s.turns = .reset :: rest) : StepEffect s (State.resetStep { s with turns := rest })

theorem dispatchStep_effect {s t : State} (ht : s.turns = [] ∨ ∃ turns, s.turns = .dispatcher :: turns)
    (h : dispatchStep { s with turns := s.turns.tail } = .next t) : StepEffect s t := by
  rcases dispatchStep_cases { s with turns := s.turns.tail } with ⟨-, hd⟩ | ⟨hen, e, rest, hq, ⟨x, -, hd⟩ | ⟨i, hi, hd⟩⟩
  · cases hd.symm.trans h
    exact .idle
  · cases hd.symm.trans h
  · exact .dispatched ht hen hq hi (hd.symm.trans h)

theorem hostStep_effect {s t : State} {w a : Word} {rest : List Turn} (ht : s.turns = .host w a :: rest)
    (h : hostStep w a { s with turns := rest } = .next t) : StepEffect s t := by
  have htail : rest = s.turns.tail := by rw [ht, List.tail_cons]
  rcases hostStep_cases w a { s with turns := rest } with ⟨-, hd⟩ | ⟨-, -, hd⟩ | ⟨hf, i, hi, hd⟩
  · cases hd.symm.trans h
    rw [htail]
    exact .idle
  · cases hd.symm.trans h
    rw [htail]
    exact .faulted _
  · exact .command ht hf hi (hd.symm.trans h)

theorem deliveryStep_effect {s t : State} {e : Word} {rest : List Turn}
    (ht : s.turns = .radio e :: rest ∨ s.turns = .arbiter e :: rest)
    (h : deliveryStep e { s with turns := rest } = .next t) : StepEffect s t := by
  have htail : rest = s.turns.tail := by rcases ht with ht | ht <;> rw [ht, List.tail_cons]
  rcases deliveryStep_cases e { s with turns := rest } with ⟨-, hd⟩ | ⟨-, hd⟩
  · cases hd.symm.trans h
    rw [htail]
    exact .idle
  · cases hd.symm.trans h
    rcases deliver_cases { s with turns := rest } e with ⟨-, hv⟩ | ⟨-, -, hv⟩ | ⟨he, hq, hv⟩
    · rw [hv, htail]
      exact .faulted _
    · rw [hv, htail]
      exact .faulted _
    · rw [hv]
      exact .delivered ht he hq

/-- The inversion of `step`. -/
theorem step_effect {s t : State} (h : step s = .next t) : StepEffect s t := by
  rcases step_cases s with ⟨u, rest, ht, hs⟩ | ⟨ht, hs⟩
  · have h := hs.symm.trans h
    cases u with
    | host w a => exact hostStep_effect ht h
    | radio e => exact deliveryStep_effect (.inl ht) h
    | arbiter e => exact deliveryStep_effect (.inr ht) h
    | dispatcher =>
      refine dispatchStep_effect (.inr ⟨rest, ht⟩) ?_
      rw [ht]
      exact h
    | reset =>
      cases h
      exact .reset ht
  · have hself : { s with turns := s.turns.tail } = s := by
      rw [ht, List.tail_nil, ← ht]
    refine dispatchStep_effect (.inl ht) ?_
    rw [hself]
    exact hs.symm.trans h

/-! ## Queue and logs over a step -/

/-- The only word that is IRQ_HANDLER (R75). -/
theorem word_of_decode_irqHandler {mode : IrqDispatch} {w a : Word} (h : decodeCmd mode w a = .ok .irqHandler) :
    w = 0x0C000000#32 := by
  obtain ⟨⟨r, hr, ho, hz, hi⟩, -⟩ := decodeCmd_ok h
  have rows : ∀ r ∈ commandReadings w a, r.instr = .irqHandler → r = ⟨0, 0x0C#8, .irqHandler⟩ := by
    simp [commandReadings]
  have hrow := rows r hr hi
  subst hrow
  have hp : w.extractLsb' 0 24 = 0#24 := hz
  rw [word_split w, ho, hp]
  rfl

/-- Settles O51, by the effects of a step: only IRQ_HANDLER among the instructions reads the queue, and the dispatcher has taken
the head off before the event's rule runs. -/
theorem eventQueueIsFifo : Obligations.EventQueueIsFifo := by
  intro s t h hreset
  cases step_effect h with
  | idle => exact .inl rfl
  | faulted c => exact .inl rfl
  | delivered ht he hq => exact .inr (.inl ⟨_, _, ht, rfl⟩)
  | @command w a rest i _ ht hf hd hx =>
    rcases exec_evq hx with hq | ⟨rfl, hm, hc, hhead⟩
    · exact .inl hq
    · cases word_of_decode_irqHandler hd
      exact .inr (.inr ⟨hf, hc, hhead, .inr ⟨hm, a, rest, ht⟩⟩)
  | @dispatched e rest i _ ht hen hq hd hx =>
    obtain ⟨hf, hc, -, hm⟩ := (dispatchEnabled_iff s).mp hen
    have ht' : t.evq = rest := by
      rcases exec_evq hx with hq' | ⟨rfl, -⟩
      · exact hq'
      · exact absurd (decodeEv_isEvent hd) nofun
    exact .inr (.inr ⟨hf, hc, ⟨e, by rw [hq, ht']⟩, .inl ⟨hm, ht⟩⟩)
  | reset ht => exact absurd ht (hreset _)

/-- Settles O56, by the effects of a step; the instructions are `exec_logs_grow`. -/
theorem outputsOnlyGrow : Obligations.OutputsOnlyGrow := by
  intro s t h hreset
  cases step_effect h with
  | idle | faulted | delivered => exact ⟨List.prefix_refl _, List.prefix_refl _⟩
  | command ht hf hd hx => exact (exec_logs_grow hx :)
  | dispatched ht hen hq hd hx => exact (exec_logs_grow hx :)
  | reset ht => exact absurd ht (hreset _)

/-! ## The invariants over runs -/

/-- The invariants are on the registers and the parameters: the model's other fields may be anything. -/
theorem blockInv_ownFields {s : State} (h : BlockInv s) (responses : List Word) (turns : List Turn) (pool : List Handle)
    (abort ackReq : List Bool) (n : Nat) :
    BlockInv { s with
      responses := responses, turns := turns, poolAnswers := pool, abortAnswers := abort, ackReqAnswers := ackReq,
      drawIx := n } := { h with }

/-- The reset state, with any parameters (R41). -/
theorem blockInv_resetWith (p : Params) : BlockInv (State.resetWith p) := by
  constructor <;> simp [State.resetWith, OpState.txFamily, OpState.active]

theorem blockInv_respond {s : State} (h : BlockInv s) (w : Word) : BlockInv (s.respond w) :=
  blockInv_ownFields h ..

/-- The codes of the table (R201). -/
theorem faultCode_le (c : FaultCode) : c.code.toNat ≤ 7 := by
  cases c <;> decide

theorem blockInv_raiseFault {s : State} (h : BlockInv s) (c : FaultCode) : BlockInv (s.raiseFault c) :=
  { h with fault_code := faultCode_le c }

/-- A delivery into a queue that is not full (R210). -/
theorem blockInv_enqueue {s : State} {e : Word} (h : BlockInv s) (he : isEventWord e = true) (hq : s.queueFull = false) :
    BlockInv (s.enqueue e) := { h with
  queue_decodes := by
    intro x hx
    rcases List.mem_append.mp hx with hx | hx
    · exact h.queue_decodes x hx
    · rw [List.mem_singleton.mp hx]
      exact he
  queue_bounded := by
    intro depth hd
    have hle := h.queue_bounded depth hd
    have hne : s.evq.length ≠ depth := fun g => by
      have hfull := (queueFull_iff s).mpr (by rw [g]; exact hd)
      exact absurd (hfull.symm.trans hq) nofun
    rw [enqueue_evq, List.length_append, List.length_singleton]
    omega }

/-- The queue without its head (R101, R144). -/
theorem blockInv_tail {s : State} {e : Word} {rest : List Word} (h : BlockInv s) (hq : s.evq = e :: rest) :
    BlockInv { s with evq := rest } := { h with
  queue_decodes := fun x hx => h.queue_decodes x (hq ▸ List.mem_cons_of_mem e hx)
  queue_bounded := fun depth hd => by
    have hle := h.queue_bounded depth hd
    rw [hq] at hle
    exact (Nat.le_succ _).trans hle }

/-- After an instruction's rule and `settle()`, which restores R47. -/
theorem blockInv_settled {i : Instr} {s u : State} (h : BlockInv s) (hk : InstrKeeps i s u) : BlockInv (settled u) := by
  have hu := hk.untouched
  refine (blockInv_iff _).mpr ⟨(KeepsMode.settled u).inv (hk.inv (modeInv_of_blockInv h)), ?_, ?_, ?_, ?_⟩
  · intro (hc : u.state.cfgImmediate = true)
    simp [settled, hc]
  · rw [hu.evq]
    exact h.queue_decodes
  · rw [hu.evq, hu.params]
    exact h.queue_bounded
  · rw [hu.fault]
    exact h.fault_code

theorem exec_keeps_blockInv {i : Instr} {s t : State} (h : BlockInv s) (hx : exec i s = .next t) : BlockInv t := by
  cases exec_effect hx with
  | faulted c he => exact blockInv_raiseFault h c
  | command w he hk => exact blockInv_respond (blockInv_settled h hk) w
  | handler hm hc hq he hk => exact blockInv_respond (blockInv_settled (blockInv_tail h hq) hk) respOk
  | event he hk => exact blockInv_settled h hk

/-- Settles O44, by the effects of a step. -/
theorem everyStepKeepsInvariants : Obligations.EveryStepKeepsInvariants := by
  intro s t h hs
  have turns : ∀ ts, BlockInv { s with turns := ts } := fun ts => blockInv_ownFields h ..
  cases step_effect hs with
  | idle => exact turns _
  | faulted c => exact blockInv_raiseFault (turns _) c
  | delivered ht he hq => exact blockInv_enqueue (turns _) he hq
  | command ht hf hd hx => exact exec_keeps_blockInv (turns _) hx
  | dispatched ht hen hq hd hx =>
    have hi := turns s.turns.tail
    exact exec_keeps_blockInv (blockInv_tail hi hq) hx
  | reset ht => exact blockInv_ownFields (blockInv_resetWith s.params) ..

/-- Settles O43. -/
theorem startMeetsInvariants : Obligations.StartMeetsInvariants :=
  ⟨blockInv_resetWith _, fun p _ _ _ _ => blockInv_ownFields (blockInv_resetWith p) ..⟩

/-- The invariants hold along every run from reset. -/
theorem blockInv_of_reachable {s : State} (h : Reachable s) : BlockInv s := by
  induction h with
  | start p turns pool abort ackReq => exact startMeetsInvariants.2 p turns pool abort ackReq
  | step s t _ hs ih => exact everyStepKeepsInvariants s t ih hs

/-- Settles O45, by the induction of `blockInv_of_reachable`. -/
theorem reachableStatesMeetInvariants : Obligations.ReachableStatesMeetInvariants := by
  intro s hr
  have h := blockInv_of_reachable hr
  exact ⟨by rw [h.job_iff_tx], h.active_granted, h.listening_buffer, h.pending_waits, h.pending_iff_no_buffer,
    h.suspended_waits, h.settled, h.granted_waits_buffer⟩

end Sys2Proof.Proofs
end

section
/-!
PROOFS. The transmit job and its TX_DONE over every rule, instruction and step (spec/20_memory.md R52, R106, R243).
-/

namespace Sys2Proof.Proofs

open Sys2Proof.Machine Sys2Proof.Safety

/-! ## The fate of a job -/

/-- What may become of the job and the output log: no TX_DONE is put out and a job goes on, or the job ends with one TX_DONE of its
frame. -/
inductive JobFate (job : Option TxJob) (log : List OutRec) (job' : Option TxJob) (log' : List OutRec) : Prop where
  | quiet (outs : List OutRec) (hlog : log' = log ++ outs) (hquiet : ∀ o f, OutRec.txDone o f ∉ outs)
      (hjob : ∀ j, job = some j → job' = some j)
  | ended (o : TxOutcome) (j : TxJob) (hjob : job = some j) (hjob' : job' = none) (hlog : log' = log ++ [.txDone o j.frame])

/-- `JobFate` between two states. It reads their job and output log alone, so it does not see `settle()`, responses, turns, the
queue or a fault. -/
def JobStep (s t : State) : Prop := JobFate s.job s.outLog t.job t.outLog

/-- Nothing is put out and the job stays. -/
theorem JobStep.same {s t : State} (hjob : t.job = s.job) (hlog : t.outLog = s.outLog) : JobStep s t :=
  .quiet [] (by rw [hlog, List.append_nil]) (fun _ _ => List.not_mem_nil) fun _ h => hjob.trans h

theorem JobStep.refl (s : State) : JobStep s s := .same rfl rfl

/-- A record that is no TX_DONE is put out and the job stays. -/
theorem JobStep.out {s t : State} {r : OutRec} (hr : ∀ o f, OutRec.txDone o f ≠ r) (hjob : t.job = s.job)
    (hlog : t.outLog = s.outLog ++ [r]) : JobStep s t :=
  .quiet [r] hlog (fun o f hm => hr o f (List.mem_singleton.mp hm)) fun _ h => hjob.trans h

@[simp] theorem enterRxListen_job (s : State) : s.enterRxListen.job = s.job := by
  obtain ⟨rest, n, hdraw⟩ := bufferFor_frame s
  rw [enterRxListen_eq, armed, hdraw]
  rfl

@[simp] theorem enterRxListen_outLog (s : State) : s.enterRxListen.outLog = s.outLog := by
  obtain ⟨rest, n, hdraw⟩ := bufferFor_frame s
  rw [enterRxListen_eq, armed, hdraw]
  rfl

/-- The listening path does not touch the job (R104). -/
theorem JobStep.listen {s t : State} (h : JobStep s t) : JobStep s t.enterRxListen := by
  rw [JobStep, enterRxListen_job, enterRxListen_outLog]
  exact h

/-- In TxFamily there is a job to end (R42). -/
theorem ModeInv.job_isSome {s : State} (hi : ModeInv s) (hs : s.state.txFamily = true) : s.job.isSome = true :=
  hi.job_iff_tx.trans hs

/-- `complete_job` puts out the frame of the job it ends (R106). -/
theorem JobStep.completeJob {s : State} (hj : s.job.isSome = true) (o : TxOutcome) : JobStep s (s.completeJob o) := by
  obtain ⟨j, hj⟩ := Option.isSome_iff_exists.mp hj
  have hframe : s.jobFrame = j.frame := by rw [State.jobFrame, hj]
  refine JobStep.listen (.ended o j hj rfl ?_)
  rw [← hframe]
  rfl

/-! ## Events -/

section
variable {s : State}

theorem rxStartRule_job (s : State) : JobStep s (rxStartRule s) := by
  unfold rxStartRule
  cases s.state with
  | waitingRxFrame => exact .same rfl rfl
  | _ => exact .refl s

theorem rxAddrMatchRule_job (addressed : Bool) (s : State) : JobStep s (rxAddrMatchRule addressed s) := by
  unfold rxAddrMatchRule
  cases s.state with
  | rxHeader => cases addressed <;> exact .same rfl rfl
  | _ => exact .refl s

theorem rxCompleteRule_job (ackRequested : Bool) (s : State) : JobStep s (rxCompleteRule ackRequested s) := by
  unfold rxCompleteRule
  cases s.state with
  | rxFrame =>
    cases ackRequested with
    | true => exact .out (r := .rxDone s.rxBuffer) nofun rfl rfl
    | false => exact .listen (.out (r := .rxDone s.rxBuffer) nofun rfl rfl)
  | _ => exact .refl s

theorem txCompleteRule_job (hi : ModeInv s) : JobStep s (txCompleteRule s) := by
  unfold txCompleteRule
  cases hs : s.state with
  | txFrame =>
    dsimp only
    split
    · exact .same rfl rfl
    · exact .completeJob (hi.job_isSome (by rw [hs]; rfl)) _
  | txAck => exact .listen (.refl s)
  | _ => exact .refl s

theorem ackReceivedRule_job (matching : Bool) (hi : ModeInv s) : JobStep s (ackReceivedRule matching s) := by
  unfold ackReceivedRule
  cases hs : s.state with
  | rxAck =>
    cases matching with
    | true => exact .completeJob (hi.job_isSome (by rw [hs]; rfl)) _
    | false => exact .refl s
  | _ => exact .refl s

theorem ackTimeoutRule_job (hi : ModeInv s) : JobStep s (ackTimeoutRule s) := by
  unfold ackTimeoutRule
  cases hs : s.state with
  | rxAck => exact .completeJob (hi.job_isSome (by rw [hs]; rfl)) _
  | _ => exact .refl s

theorem edCompleteRule_job (energy : BitVec 8) (s : State) : JobStep s (edCompleteRule energy s) := by
  unfold edCompleteRule
  cases s.state with
  | energyDetection => exact .listen (.out (r := .edDone energy) nofun rfl rfl)
  | _ => exact .refl s

theorem ccaCompleteRule_job (busy : Bool) (hi : ModeInv s) : JobStep s (ccaCompleteRule busy s) := by
  unfold ccaCompleteRule
  cases hs : s.state with
  | ccaBeforeTx =>
    cases busy with
    | true => exact .completeJob (hi.job_isSome (by rw [hs]; rfl)) _
    | false => exact .same rfl rfl
  | cca => exact .listen (.out (r := .ccaDone busy) nofun rfl rfl)
  | _ => exact .refl s

theorem disabledRule_job (s : State) : JobStep s (disabledRule s) := by
  unfold disabledRule
  cases s.state with
  | disabling => exact .same rfl rfl
  | _ => exact .refl s

theorem tsGrantRule_job (s : State) : JobStep s (tsGrantRule s) := by
  by_cases hs : s.state = .waitingTimeslot
  · rw [tsGrantRule_waiting hs]
    split
    · exact .same rfl rfl
    · split
      · exact .same rfl rfl
      · exact .listen (.same rfl rfl)
  · rw [tsGrantRule_not_waiting hs]
    exact .same rfl rfl

/-- A revoke aborts a job (R181). `ts_granted` is written first; the rest of the rule starts from a state `r` with the job and the
log of `s`. -/
theorem tsRevokeRule_job (hi : ModeInv s) : JobStep s (tsRevokeRule s) := by
  change JobStep { s with tsGranted := false } _
  have hj : (State.job { s with tsGranted := false }).isSome = (State.state { s with tsGranted := false }).txFamily :=
    hi.job_iff_tx
  unfold tsRevokeRule
  generalize { s with tsGranted := false } = r at hj ⊢
  dsimp only
  cases hs : r.state with
  | sleep | waitingTimeslot => exact .refl r
  | disabling | continuousCarrier => exact .same rfl rfl
  | waitingRxFrame | rxHeader | rxFrame | txAck =>
    dsimp only
    rw [dropIfReceiving_eq]
    exact .listen (.refl r)
  | ccaBeforeTx | txFrame | rxAck => exact .completeJob (hj.trans (by rw [hs]; rfl)) _
  | energyDetection => exact .listen (.out (r := .edAborted) nofun rfl rfl)
  | cca => exact .listen (.out (r := .ccaAborted) nofun rfl rfl)

theorem performEvent_job {i : Instr} {u : State} (hi : ModeInv s) (h : performEvent i s = some u) : JobStep s u := by
  cases i with
  | evRxStart => cases h; exact rxStartRule_job s
  | evRxAddrMatch f => cases h; exact rxAddrMatchRule_job f s
  | evRxComplete f => cases h; exact rxCompleteRule_job f s
  | evTxComplete => cases h; exact txCompleteRule_job hi
  | evAckReceived f => cases h; exact ackReceivedRule_job f hi
  | evAckTimeout => cases h; exact ackTimeoutRule_job hi
  | evEdComplete v => cases h; exact edCompleteRule_job v s
  | evCcaComplete f => cases h; exact ccaCompleteRule_job f hi
  | evDisabled => cases h; exact disabledRule_job s
  | evTsGrant => cases h; exact tsGrantRule_job s
  | evTsRevoke => cases h; exact tsRevokeRule_job hi
  | _ => cases h

end

/-! ## Commands -/

theorem sleepRule_job (s : State) : JobStep s (sleepRule s).1 := by
  obtain ⟨rest, n, hdraw⟩ := drawAbortable_frame s
  unfold sleepRule
  cases s.state with
  | waitingTimeslot =>
    dsimp only
    split
    · exact .same rfl rfl
    · exact .refl s
  | waitingRxFrame => exact .same rfl rfl
  | rxHeader =>
    dsimp only
    rw [hdraw]
    split <;> exact .same rfl rfl
  | _ => exact .refl s

theorem receiveRule_job (s : State) : JobStep s (receiveRule s).1 := by
  unfold receiveRule
  cases s.state with
  | sleep | continuousCarrier => exact .listen (.refl s)
  | waitingTimeslot =>
    dsimp only
    split
    · exact .listen (.refl s)
    · exact .refl s
  | _ => exact .refl s

/-- A job is created only where there is none (R122 with R42). -/
theorem startJob_job {s : State} (frame : Handle) (c : Bool) (hj : s.job = none) : JobStep s (s.startJob frame c) := by
  obtain ⟨rest, n, hdraw⟩ := drawAckRequested_frame s frame
  have hlog : (s.startJob frame c).outLog = s.outLog := by rw [State.startJob, hdraw]
  exact .quiet [] (by rw [hlog, List.append_nil]) (fun _ _ => List.not_mem_nil) fun j h => by
    rw [hj] at h
    cases h

theorem transmitRule_job {s : State} (frame : Handle) (c : Bool) (hi : ModeInv s) :
    JobStep s (transmitRule frame c s).1 := by
  unfold transmitRule
  cases hs : s.state with
  | waitingRxFrame | rxHeader | rxFrame => exact startJob_job frame c (hi.job_none (by rw [hs]; rfl))
  | _ => exact .refl s

/-- The probes and the carrier write neither the job nor the log (R110); `start` is the state they start from. -/
theorem probeRule_job {s start : State} (hstart : JobStep s start) (target : OpState) :
    JobStep s (probeRule s (start.startProbe target)).1 := by
  unfold probeRule
  cases s.probeSourceCheck with
  | legal =>
    rw [startProbe_eq]
    exact hstart
  | fails r => exact .refl s

theorem notifyBufferFreeRule_job (b : Handle) (s : State) : JobStep s (notifyBufferFreeRule b s).1 := by
  unfold notifyBufferFreeRule
  split
  · exact .same rfl rfl
  · exact .refl s

/-- IRQ_HANDLER where an event waits: the event's rule, the head taken off the queue (R144). -/
theorem performHead_job {s u : State} {e : Word} (hi : ModeInv s) (h : performHead e s = some u) : JobStep s u := by
  unfold performHead at h
  cases hd : decodeEv e with
  | error x => rw [hd] at h; cases h
  | ok i =>
    rw [hd] at h
    have hdrop : ModeInv s.dropHead := { hi with }
    exact (performEvent_job hdrop h :)

theorem commandRule_job {i : Instr} {s u : State} {w : Word} (hi : ModeInv s) (h : commandRule i s = some (u, w)) :
    JobStep s u := by
  have rule : ∀ r : State × Word, some r = some (u, w) → r.1 = u := fun r hr => by cases hr; rfl
  cases i with
  | sleep => exact rule _ h ▸ sleepRule_job s
  | receive => exact rule _ h ▸ receiveRule_job s
  | transmit frame c => exact rule _ h ▸ transmitRule_job frame c hi
  | energyDetection d => exact rule _ h ▸ probeRule_job (s := s) (start := { s with edTime := d }) (.same rfl rfl) _
  | cca | continuousCarrier => exact rule _ h ▸ probeRule_job (.refl s) _
  | notifyBufferFree b => exact rule _ h ▸ notifyBufferFreeRule_job b s
  | currentState | channelUpdate | ccaCfgUpdate | csEnter | csExit | cfgSetChannel | cfgSetCca =>
    exact rule _ h ▸ .same rfl rfl
  | irqHandler =>
    unfold commandRule at h
    dsimp only at h
    split at h
    next => exact rule _ h ▸ .refl s
    next e rest hq =>
      obtain ⟨v, hv, hr⟩ := Option.map_eq_some_iff.mp h
      cases hr
      exact performHead_job hi hv
  | _ => cases h

/-! ## Instructions and steps -/

theorem exec_job {i : Instr} {s t : State} (hi : ModeInv s) (h : exec i s = .next t) : JobStep s t := by
  rcases exec_next_cases h with ⟨-, c, rfl⟩ | ⟨-, u, w, hr, rfl⟩ | ⟨-, u, hp, rfl⟩
  · exact .same rfl rfl
  · exact (commandRule_job hi hr :)
  · exact (performEvent_job hi hp :)

theorem step_job {s t : State} (hi : ModeInv s) (h : step s = .next t) (hreset : ∀ rest, s.turns ≠ .reset :: rest) :
    JobStep s t := by
  have own : ∀ turns evq, ModeInv { s with turns := turns, evq := evq } := fun _ _ => { hi with }
  cases step_effect h with
  | idle | faulted | delivered => exact .same rfl rfl
  | command ht hf hd hx => exact (exec_job (own _ s.evq) hx :)
  | dispatched ht hen hq hd hx => exact (exec_job (own _ _) hx :)
  | reset ht => exact absurd ht (hreset _)

/-- Settles O47, by the fate of the job over a step (`step_job`), whose cases are its two alternatives. -/
theorem frameReturnedExactlyOnce : Obligations.FrameReturnedExactlyOnce := by
  intro s t hinv h hreset
  cases step_job (modeInv_of_blockInv hinv) h hreset with
  | quiet outs hlog hquiet hjob => exact ⟨outs, hlog, fun _ => hquiet, fun j hj => .inl ⟨hjob j hj, hquiet⟩⟩
  | ended o j hjob hjob' hlog =>
    refine ⟨_, hlog, fun hnone => ?_, fun k hk => .inr ⟨hjob', o, ?_⟩⟩
    · rw [hjob] at hnone
      cases hnone
    · rw [hjob] at hk
      cases hk
      rfl

end Sys2Proof.Proofs
end

section
/-!
PROOFS. The byte stream of an instruction, decoded again (spec/30_encoding.md R53, R54, R74): each decoder gives back the
instruction of its own port's word, and rejects by opcode the words of the other port.
-/

namespace Sys2Proof.Proofs

/-! ## The fields of an encoded word -/

@[simp] theorem opcodeOf_word (i : Instr) : opcodeOf i.word = i.opcode := opcodeOf_append _ _

@[simp] theorem reservedAbove_word (n : Nat) (i : Instr) : reservedAbove n i.word = i.payload >>> n :=
  reservedAbove_append _ _ _

@[simp] theorem bitField_word (i : Instr) : bitField i.word = i.payload.getLsbD 0 := bitField_append _ _

@[simp] theorem byteField_word (i : Instr) : byteField i.word = i.payload.setWidth 8 := byteField_append _ _

@[simp] theorem halfField_word (i : Instr) : halfField i.word = i.payload.setWidth 16 := halfField_append _ _

/-! ## The decoders on an encoded word -/

/-- The command decoder gives back a command from its words (R75, R87); IRQ_HANDLER where the host owns dispatch (R78). -/
theorem decodeCmd_word {mode : IrqDispatch} {i : Instr} (he : i.isEvent = false) (hm : i = .irqHandler → mode = .hostCalled) :
    decodeCmd mode i.word (i.argument.getD 0#32) = .ok i := by
  cases i with
  | transmit | energyDetection | notifyBufferFree =>
    simp [decodeCmd, checkReserved, Instr.opcode, Instr.payload, Instr.argument]
  | cfgSetChannel | cfgSetCca =>
    simp [decodeCmd, checkReserved, Instr.opcode, Instr.payload, setWidth_reserved]
  | irqHandler =>
    rw [hm rfl]
    rfl
  | sleep | receive | cca | continuousCarrier | currentState | channelUpdate | ccaCfgUpdate | csEnter | csExit => rfl
  | _ => cases he

/-- The event decoder gives back an event from its word (R79, R88). -/
theorem decodeEv_word {i : Instr} (he : i.isEvent = true) : decodeEv i.word = .ok i := by
  cases i with
  | evRxAddrMatch | evRxComplete | evAckReceived | evCcaComplete =>
    simp [decodeEv, checkReserved, Instr.opcode, Instr.payload]
  | evEdComplete =>
    simp [decodeEv, checkReserved, Instr.opcode, Instr.payload, setWidth_reserved]
  | evRxStart | evTxComplete | evAckTimeout | evDisabled | evTsGrant | evTsRevoke => rfl
  | _ => cases he

/-- An event's opcode is in no row of the command table (R76, R81, decision D5). -/
theorem decodeCmd_event_word (mode : IrqDispatch) {i : Instr} (he : i.isEvent = true) (a : Word) :
    decodeCmd mode i.word a = .error .reservedOpcode := by
  unfold decodeCmd
  rw [opcodeOf_word]
  cases i with
  | evRxStart | evRxAddrMatch | evRxComplete | evTxComplete | evAckReceived | evAckTimeout | evEdComplete | evCcaComplete
  | evDisabled | evTsGrant | evTsRevoke => rfl
  | _ => cases he

/-- The opcode alone tells whether an argument word follows (R74). -/
theorem takesArgument_word (i : Instr) : takesArgument (opcodeOf i.word) = i.argument.isSome := by
  rw [opcodeOf_word]
  cases i <;> rfl

/-- Events carry no argument word (R79). -/
theorem argument_of_event {i : Instr} (he : i.isEvent = true) : i.argument = none := by
  cases i with
  | transmit | energyDetection | notifyBufferFree => cases he
  | _ => rfl

/-! ## The byte decoder, by what the bytes hold -/

/-- A command without an argument word. -/
theorem decodeBytes_command {mode : IrqDispatch} {w : Word} {i : Instr} (rest : List Byte)
    (ht : takesArgument (opcodeOf w) = false) (hd : decodeCmd mode w 0#32 = .ok i) :
    decodeBytes mode (wordBytes w ++ rest) = .ok (i, rest) := by
  simp [decodeBytes, wordBytes, ht, hd, Except.map]

/-- A command with its argument word (R54). -/
theorem decodeBytes_argument {mode : IrqDispatch} {w a : Word} {i : Instr} (rest : List Byte)
    (ht : takesArgument (opcodeOf w) = true) (hd : decodeCmd mode w a = .ok i) :
    decodeBytes mode (wordBytes w ++ (wordBytes a ++ rest)) = .ok (i, rest) := by
  simp [decodeBytes, wordBytes, ht, hd, Except.map]

/-- A word that the command port reserves and the event port reads. -/
theorem decodeBytes_event {mode : IrqDispatch} {w : Word} {i : Instr} (rest : List Byte)
    (ht : takesArgument (opcodeOf w) = false) (hc : decodeCmd mode w 0#32 = .error .reservedOpcode)
    (hd : decodeEv w = .ok i) : decodeBytes mode (wordBytes w ++ rest) = .ok (i, rest) := by
  simp [decodeBytes, wordBytes, ht, hc, hd, Except.map]

/-- The bytes of an instruction of one word. -/
theorem encodeBytes_of_none {i : Instr} (h : i.argument = none) : encodeBytes i = wordBytes i.word := by
  simp [encodeBytes, encode, h]

/-- The bytes of an instruction of two words. -/
theorem encodeBytes_of_some {i : Instr} {a : Word} (h : i.argument = some a) :
    encodeBytes i = wordBytes i.word ++ wordBytes a := by
  simp [encodeBytes, encode, h]

/-- Settles O33, by the three shapes an instruction's bytes have: an event, a command of one word, a command with its argument. -/
theorem byteStreamRoundTrip : Obligations.ByteStreamRoundTrip := by
  intro mode i rest hm
  have htakes := takesArgument_word i
  cases he : i.isEvent with
  | true =>
    have harg := argument_of_event he
    rw [harg] at htakes
    rw [encodeBytes_of_none harg]
    exact decodeBytes_event rest htakes (decodeCmd_event_word mode he _) (decodeEv_word he)
  | false =>
    have hd := decodeCmd_word he hm
    cases harg : i.argument with
    | none =>
      rw [harg] at htakes hd
      rw [encodeBytes_of_none harg]
      exact decodeBytes_command rest htakes hd
    | some a =>
      rw [harg] at htakes hd
      rw [encodeBytes_of_some harg, List.append_assoc]
      exact decodeBytes_argument rest htakes hd

end Sys2Proof.Proofs
end

section
/-!
PROOFS. The critical section masks dispatch and nothing of a delivery (spec/60_exceptions.md R210, R213).
-/

namespace Sys2Proof.Proofs

open Sys2Proof.Machine Sys2Proof.Safety

/-- Inside the critical section a dispatch step writes nothing (R101). -/
theorem dispatchStep_of_csHeld {s : State} (h : s.csHeld = true) : dispatchStep s = .next s := by
  rcases dispatchStep_cases s with ⟨-, hd⟩ | ⟨hen, -⟩
  · exact hd
  · obtain ⟨-, hfree, -⟩ := (dispatchEnabled_iff s).mp hen
    exact absurd (hfree.symm.trans h) nofun

/-- A delivery step, in full: nothing, the word at the tail of the queue, or a fault of R210; the critical section is not read. -/
theorem deliveryStep_next {s t : State} {e : Word} (h : deliveryStep e s = .next t) :
    t = s ∨ t = { s with evq := s.evq ++ [e] } ∨ t = { s with fault := 0x01#8 } ∨ t = { s with fault := 0x06#8 } := by
  rcases deliveryStep_cases e s with ⟨-, hd⟩ | ⟨-, hd⟩
  · cases hd.symm.trans h
    exact .inl rfl
  · cases hd.symm.trans h
    rcases deliver_cases s e with ⟨-, hv⟩ | ⟨-, -, hv⟩ | ⟨-, -, hv⟩
    · exact .inr (.inr (.inl hv))
    · exact .inr (.inr (.inr hv))
    · exact .inr (.inl hv)

/-- Settles O52, by whose step it is: a source's or the dispatcher's. -/
theorem criticalSectionMasksDispatch : Obligations.CriticalSectionMasksDispatch := by
  intro s t hcs h hhost hreset
  rcases step_cases s with ⟨u, rest, ht, hs⟩ | ⟨ht, hs⟩
  · have h := hs.symm.trans h
    have htail : s.turns.tail = rest := by rw [ht, List.tail_cons]
    rw [htail]
    cases u with
    | host w a => exact absurd ht (hhost w a rest)
    | radio e => exact (deliveryStep_next h).imp_right fun written => ⟨e, rest, .inl ht, written⟩
    | arbiter e => exact (deliveryStep_next h).imp_right fun written => ⟨e, rest, .inr ht, written⟩
    | dispatcher =>
      cases (dispatchStep_of_csHeld (s := { s with turns := rest }) hcs).symm.trans h
      exact .inl rfl
    | reset => exact absurd ht (hreset rest)
  · cases (dispatchStep_of_csHeld hcs).symm.trans (hs.symm.trans h)
    exact .inl (by rw [ht, List.tail_nil, ← ht])

end Sys2Proof.Proofs
end

section
/-!
PROOFS. The decoders of spec/30_encoding.md both ways (R75, R79, R87, R88), and the words of the output side (R82 to R85). A row of
a port's table is a `Reading`: a word has the row when its opcode is the row's and its reserved bits are 0, and then the row's
instruction has that word.
-/

namespace Sys2Proof.Proofs

open Sys2Proof.Machine Sys2Proof.Safety

/-! ## A row of a table, as a word has it -/

/-- The word `w` is one of the row's: the row's opcode, and no reserved bit (R76, R81). -/
def HasRow (w : Word) (r : Reading) : Prop := opcodeOf w = r.opcode ∧ reservedAbove r.reservedFrom w = 0#24

/-- The row's instruction carries the row's opcode, and as its payload the operand bits of `w`. -/
def CarriesFields (w : Word) (r : Reading) : Prop :=
  r.instr.opcode = r.opcode ∧ r.instr.payload = ((w.extractLsb' 0 24).setWidth r.reservedFrom).setWidth 24

/-- No bit of the word is dropped: outside the opcode and the operand bits it is 0. -/
theorem word_of_hasRow {w : Word} {r : Reading} (hw : HasRow w r) (hc : CarriesFields w r) : r.instr.word = w := by
  obtain ⟨hopcode, hreserved⟩ := hw
  obtain ⟨hinstr, hpayload⟩ := hc
  calc r.instr.word
      = r.opcode ++ ((w.extractLsb' 0 24).setWidth r.reservedFrom).setWidth 24 := by rw [Instr.word, hinstr, hpayload]
    _ = opcodeOf w ++ w.extractLsb' 0 24 := by rw [← payload_of_reserved_zero hreserved, hopcode]
    _ = w := (word_split w).symm

/-- The one-bit operand is the payload's low bit (R72, R80). -/
theorem payload_bitField (w : Word) :
    (BitVec.ofBool (bitField w)).setWidth 24 = ((w.extractLsb' 0 24).setWidth 1).setWidth 24 := by
  rw [word_split w, bitField_append, payload_append]
  congr 1
  apply BitVec.eq_of_getLsbD_eq
  intro i hi
  obtain rfl : i = 0 := by omega
  simp

/-- The byte operand is the payload's low byte (R72, R80). -/
theorem payload_byteField (w : Word) : (byteField w).setWidth 24 = ((w.extractLsb' 0 24).setWidth 8).setWidth 24 := by
  rw [word_split w, byteField_append, payload_append]

/-- The half-word operand is the payload's low half-word (R72). -/
theorem payload_halfField (w : Word) : (halfField w).setWidth 24 = ((w.extractLsb' 0 24).setWidth 16).setWidth 24 := by
  rw [word_split w, halfField_append, payload_append]

/-- A payload without operand bits is 0. -/
theorem payload_no_field (w : Word) : 0#24 = ((w.extractLsb' 0 24).setWidth 0).setWidth 24 := by
  rw [BitVec.of_length_zero (x := (w.extractLsb' 0 24).setWidth 0)]
  simp

theorem commandReadings_carryFields (w a : Word) : ∀ r ∈ commandReadings w a, CarriesFields w r := by
  simp [commandReadings, CarriesFields, Instr.opcode, Instr.payload, ← payload_no_field, payload_bitField,
    payload_byteField, payload_halfField]

theorem eventReadings_carryFields (e : Word) : ∀ r ∈ eventReadings e, CarriesFields e r := by
  simp [eventReadings, CarriesFields, Instr.opcode, Instr.payload, ← payload_no_field, payload_bitField, payload_byteField]

theorem commandReadings_argument (w a : Word) : ∀ r ∈ commandReadings w a, ∀ x, r.instr.argument = some x → x = a := by
  simp [commandReadings, Instr.argument]

/-! ## What the decoders answer -/

/-- A command that is read has the word and the argument that were read (R87). -/
theorem word_argument_of_decodeCmd {mode : IrqDispatch} {w a : Word} {i : Instr} (h : decodeCmd mode w a = .ok i) :
    i.word = w ∧ ∀ x, i.argument = some x → x = a := by
  obtain ⟨⟨r, hr, hopcode, hreserved, rfl⟩, -⟩ := decodeCmd_ok h
  exact ⟨word_of_hasRow ⟨hopcode, hreserved⟩ (commandReadings_carryFields w a r hr), commandReadings_argument w a r hr⟩

/-- An event that is read has the word that was read (R88). -/
theorem word_of_decodeEv {e : Word} {i : Instr} (h : decodeEv e = .ok i) : i.word = e := by
  obtain ⟨r, hr, hopcode, hreserved, rfl⟩ := decodeEv_ok h
  exact word_of_hasRow ⟨hopcode, hreserved⟩ (eventReadings_carryFields e r hr)

/-- Where no argument word follows, the decoder does not read one (R74). -/
theorem decodeCmd_argument_unread (mode : IrqDispatch) {w : Word} (h : takesArgument (opcodeOf w) = false) (a b : Word) :
    decodeCmd mode w a = decodeCmd mode w b := by
  simp only [takesArgument, Bool.or_eq_false_iff, beq_eq_false_iff_ne] at h
  obtain ⟨⟨htransmit, henergy⟩, hbuffer⟩ := h
  simp only [decodeCmd, if_neg htransmit, if_neg henergy, if_neg hbuffer]

/-- The command decoder gives back a command from its word and, where it has one, its argument (R87). -/
theorem decodeCmd_of_word {mode : IrqDispatch} {i : Instr} {a : Word} (he : i.isEvent = false)
    (hm : i = .irqHandler → mode = .hostCalled) (ha : ∀ x, i.argument = some x → x = a) :
    decodeCmd mode i.word a = .ok i := by
  have hd := decodeCmd_word he hm
  cases harg : i.argument with
  | none =>
    have htakes : takesArgument (opcodeOf i.word) = false := by rw [takesArgument_word, harg]; rfl
    rwa [harg, decodeCmd_argument_unread mode htakes _ a] at hd
  | some x => rwa [harg, Option.getD_some, ha x harg] at hd

/-- R87, both ways. -/
theorem decodeCmd_ok_iff (mode : IrqDispatch) (w a : Word) (i : Instr) : decodeCmd mode w a = .ok i ↔
    i.isEvent = false ∧ (i = .irqHandler → mode = .hostCalled) ∧ i.word = w ∧ ∀ x, i.argument = some x → x = a := by
  constructor
  · intro h
    obtain ⟨hw, ha⟩ := word_argument_of_decodeCmd h
    refine ⟨decodeCmd_isCommand h, ?_, hw, ha⟩
    rintro rfl
    exact (decodeCmd_ok h).2 (hw ▸ opcodeOf_word .irqHandler)
  · rintro ⟨he, hm, rfl, ha⟩
    exact decodeCmd_of_word he hm ha

/-- R88, both ways. -/
theorem decodeEv_ok_iff (e : Word) (i : Instr) : decodeEv e = .ok i ↔ i.isEvent = true ∧ i.word = e := by
  constructor
  · exact fun h => ⟨decodeEv_isEvent h, word_of_decodeEv h⟩
  · rintro ⟨he, rfl⟩
    exact decodeEv_word he

/-- The event port takes exactly the words that decode (R81). -/
theorem isEventWord_iff (e : Word) : isEventWord e = true ↔ ∃ i, decodeEv e = .ok i := by
  unfold isEventWord
  cases decodeEv e <;> simp

/-- Settles O30, by `decodeCmd_ok_iff`; words that are no command leave a command step the illegal encoding only. -/
theorem commandDecoderExact : Obligations.CommandDecoderExact := by
  refine ⟨decodeCmd_ok_iff, fun w a s hf hno => ?_⟩
  rcases hostStep_cases w a s with ⟨hfault, -⟩ | ⟨-, -, hstep⟩ | ⟨-, i, hd, -⟩
  · exact absurd hf hfault
  · exact hstep
  · exact absurd hd (hno i)

/-- Settles O31, by `decodeEv_ok_iff`; a word that is no event leaves a delivery the illegal encoding only. -/
theorem eventDecoderExact : Obligations.EventDecoderExact := by
  refine ⟨decodeEv_ok_iff, fun e s hf hno => ?_⟩
  have hword : ¬ isEventWord e = true := fun h => (isEventWord_iff e).mp h |>.elim hno
  rcases deliveryStep_cases e s with ⟨hfault, -⟩ | ⟨-, hstep⟩
  · exact absurd hf hfault
  · rcases deliver_cases s e with ⟨-, hd⟩ | ⟨h, -⟩ | ⟨h, -⟩
    · rw [hstep, hd]
      rfl
    · exact absurd h hword
    · exact absurd h hword

/-! ## The match and mask columns -/

/-- The row as its columns print it: the match has the opcode and zeros, the mask every bit that is no operand bit (R75, R79). -/
def matchMask (r : Reading) : Word × Word := (r.opcode ++ 0#24, 0xFF#8 ++ (BitVec.allOnes 24 <<< r.reservedFrom))

theorem commandRows_eq (w a : Word) : commandRows = (commandReadings w a).map matchMask := by
  simp only [commandRows, commandReadings, matchMask, List.map_cons, List.map_nil]
  rfl

theorem eventRows_eq (e : Word) : eventRows = (eventReadings e).map matchMask := by
  simp only [eventRows, eventReadings, matchMask, List.map_cons, List.map_nil]
  rfl

/-- Equality of two words, field by field (R71). -/
theorem append_eq_append_iff (o o' : BitVec 8) (p p' : BitVec 24) : o ++ p = o' ++ p' ↔ o = o' ∧ p = p' := by
  constructor
  · intro h
    exact ⟨by simpa using congrArg opcodeOf h, by simpa using congrArg (BitVec.extractLsb' 0 24) h⟩
  · rintro ⟨rfl, rfl⟩
    rfl

/-- The mask's bits of a payload are 0 exactly if its reserved bits are. -/
theorem and_allOnes_shiftLeft_eq_zero_iff (n : Nat) (p : BitVec 24) :
    p &&& (BitVec.allOnes 24 <<< n) = 0#24 ↔ p >>> n = 0#24 := by
  rw [← BitVec.shiftLeft_ushiftRight]
  constructor
  · intro h
    apply BitVec.eq_of_getLsbD_eq
    intro i hi
    by_cases hin : n + i < 24
    · simpa [hin] using congrArg (·.getLsbD (n + i)) h
    · simp [BitVec.getLsbD_of_ge p (n + i) (by omega)]
  · intro h
    rw [h, BitVec.zero_shiftLeft]

/-- A word agrees with the match under the mask exactly if it has the row. -/
theorem and_mask_eq_match_iff (w : Word) (r : Reading) : w &&& (matchMask r).2 = (matchMask r).1 ↔ HasRow w r := by
  have hand : w &&& (matchMask r).2 =
      opcodeOf w ++ (w.extractLsb' 0 24 &&& (BitVec.allOnes 24 <<< r.reservedFrom)) := by
    conv_lhs => rw [word_split w, matchMask, BitVec.and_append]
    rw [show 0xFF#8 = BitVec.allOnes 8 from rfl, BitVec.and_allOnes]
  rw [hand, matchMask, append_eq_append_iff, and_allOnes_shiftLeft_eq_zero_iff]
  rfl

theorem inRows_map_iff (w : Word) (rows : List Reading) :
    inRows (rows.map matchMask) w ↔ ∃ r ∈ rows, HasRow w r := by
  simp [inRows, and_mask_eq_match_iff]

/-- A word decodes on the command port exactly if it has a row of R75. -/
theorem decodeCmd_ok_iff_hasRow (w a : Word) :
    (∃ i, decodeCmd .hostCalled w a = .ok i) ↔ ∃ r ∈ commandReadings w a, HasRow w r := by
  constructor
  · rintro ⟨i, h⟩
    obtain ⟨⟨r, hr, hopcode, hreserved, -⟩, -⟩ := decodeCmd_ok h
    exact ⟨r, hr, hopcode, hreserved⟩
  · rintro ⟨r, hr, hw⟩
    have hcommand : ∀ q ∈ commandReadings w a, q.instr.isEvent = false := by simp [commandReadings, Instr.isEvent]
    exact ⟨r.instr, (decodeCmd_ok_iff ..).mpr ⟨hcommand r hr, fun _ => rfl,
      word_of_hasRow hw (commandReadings_carryFields w a r hr), commandReadings_argument w a r hr⟩⟩

/-- A word decodes on the event port exactly if it has a row of R79. -/
theorem decodeEv_ok_iff_hasRow (e : Word) : (∃ i, decodeEv e = .ok i) ↔ ∃ r ∈ eventReadings e, HasRow e r := by
  constructor
  · rintro ⟨i, h⟩
    obtain ⟨r, hr, hopcode, hreserved, -⟩ := decodeEv_ok h
    exact ⟨r, hr, hopcode, hreserved⟩
  · rintro ⟨r, hr, hw⟩
    have hevent : ∀ q ∈ eventReadings e, q.instr.isEvent = true := by simp [eventReadings, Instr.isEvent]
    exact ⟨r.instr, (decodeEv_ok_iff ..).mpr ⟨hevent r hr, word_of_hasRow hw (eventReadings_carryFields e r hr)⟩⟩

/-- The match of a row is a word of no row with another opcode. -/
theorem match_not_in_row {r q : Reading} (h : r.opcode ≠ q.opcode) :
    (matchMask r).1 &&& (matchMask q).2 ≠ (matchMask q).1 := by
  rw [Ne, and_mask_eq_match_iff]
  rintro ⟨hopcode, -⟩
  exact h ((opcodeOf_append _ _).symm.trans hopcode)

/-- The 26 opcodes of the two ports are distinct (R76, R81, decision D5). -/
theorem readings_opcodes_pairwise (w a e : Word) :
    (commandReadings w a ++ eventReadings e).Pairwise fun r q => r.opcode ≠ q.opcode := by
  rw [← List.pairwise_map (f := Reading.opcode) (R := (· ≠ ·))]
  simp only [commandReadings, eventReadings, List.cons_append, List.nil_append, List.map_cons, List.map_nil]
  decide

/-- Settles O32, by reading each printed row as a `Reading`; rows with distinct opcodes share no match. -/
theorem opcodeTableRows : Obligations.OpcodeTableRows := by
  refine ⟨fun w a => ?_, fun e => ?_, ?_⟩
  · rw [commandRows_eq w a, inRows_map_iff]
    exact decodeCmd_ok_iff_hasRow w a
  · rw [eventRows_eq e, inRows_map_iff, isEventWord_iff]
    exact decodeEv_ok_iff_hasRow e
  · rw [commandRows_eq 0#32 0#32, eventRows_eq 0#32, ← List.map_append, List.pairwise_map]
    exact (readings_opcodes_pairwise 0#32 0#32 0#32).imp fun h => ⟨match_not_in_row h, match_not_in_row h.symm⟩

/-- Settles O34: the words that decode are their instructions' own (`decodeCmd_of_word`, `decodeEv_word`), and each refusal is the
decoder's first failing check. -/
theorem decodeVectors : Obligations.DecodeVectors := by
  refine ⟨?_, ?_, ?_, ?_, ?_, ?_, ?_, ?_, ?_, ?_⟩
  · exact decodeCmd_of_word (i := .transmit 0x00001000#32 true) rfl nofun fun _ h => (Option.some.inj h).symm
  · exact decodeCmd_of_word (i := .energyDetection 0xFFFFFFFF#32) rfl nofun fun _ h => (Option.some.inj h).symm
  · exact decodeCmd_of_word (i := .cfgSetChannel 0xFF#8) rfl nofun nofun
  · exact decodeCmd_of_word (i := .cfgSetCca 0xFFFF#16) rfl nofun nofun
  · rfl
  · rfl
  · rfl
  · exact decodeEv_word (i := .evEdComplete 0xFF#8) rfl
  · exact decodeEv_word (i := .evRxAddrMatch true) rfl
  · rfl

/-! ## The words of the output side -/

/-- The word of a field at bit 0 under a kind or an opcode, as an OR of the two. -/
theorem append_setWidth_eq_or {n : Nat} (o : BitVec 8) (v : BitVec n) (hn : n ≤ 24) :
    o ++ v.setWidth 24 = (o ++ 0#24) ||| v.setWidth 32 := by
  have hwide : v.setWidth 32 = 0#8 ++ v.setWidth 24 := by
    rw [← BitVec.setWidth_setWidth (w := 32) (x := v) (v := 24) (by omega), BitVec.setWidth_eq_append (by decide), BitVec.cast_eq]
  rw [hwide, BitVec.or_append, BitVec.or_zero, BitVec.zero_or]

/-- A success word with a state code in bits [7:4] (R82). -/
theorem responseWord_code (code : BitVec 4) :
    responseWord code false 0#2 true = 0x00000001#32 ||| (code.setWidth 32 <<< 4) := by
  revert code
  decide

/-- Settles O35, by evaluating each word; the two with an operand are `responseWord_code` and `append_setWidth_eq_or`. -/
theorem portWords : Obligations.PortWords := by
  refine ⟨rfl, rfl, rfl, rfl, fun st => responseWord_code st.code, fun _ => ⟨rfl, rfl, rfl, rfl⟩, fun _ => rfl, fun v => ?_,
    rfl, rfl, rfl, rfl⟩
  exact congrArg (fun word => [word]) (append_setWidth_eq_or 0x82#8 v (by decide))

end Sys2Proof.Proofs
end

section
/-!
PROOFS. Which instruction a step runs (spec/40_common_procedures.md R100, R101).
-/

namespace Sys2Proof.Proofs

open Sys2Proof.Machine Sys2Proof.Safety

/-- A command step that is enabled and decodes runs its command (R102). -/
theorem hostStep_of_decodeCmd {s : State} {w a : Word} {i : Instr} (hf : s.fault = 0#8)
    (hd : decodeCmd s.params.irqDispatch w a = .ok i) : hostStep w a s = exec i s := by
  rw [hostStep, if_pos hf, hd]

/-- A dispatch step that is enabled runs the event at the head of the queue, without that head (R101). -/
theorem dispatchStep_of_decodeEv {s : State} {e : Word} {rest : List Word} {i : Instr} (hen : s.dispatchEnabled = true)
    (hq : s.evq = e :: rest) (hd : decodeEv e = .ok i) : dispatchStep s = exec i { s with evq := rest } := by
  rcases dispatchStep_cases s with ⟨hoff, -⟩ | ⟨-, e', rest', hq', hrun⟩
  · exact absurd (hoff.symm.trans hen) nofun
  · cases hq.symm.trans hq'
    rcases hrun with ⟨x, hx, -⟩ | ⟨j, hj, hs⟩
    · cases hx.symm.trans hd
    · cases hj.symm.trans hd
      exact hs

/-- A dispatch step that is not enabled does nothing (R101). -/
theorem dispatchStep_of_not_enabled {s : State} (h : s.dispatchEnabled ≠ true) : dispatchStep s = .next s := if_neg h

theorem step_of_turn {s : State} {u : Turn} {rest : List Turn} (h : s.turns = u :: rest) :
    step s = takeTurn u { s with turns := rest } := by
  rw [step, nextStep, h]

theorem step_of_no_turn {s : State} (h : s.turns = []) : step s = dispatchStep s := by
  rw [step, nextStep, h]

/-- Settles O36. -/
theorem stepRunsDecodedCommand : Obligations.StepRunsDecodedCommand := by
  intro s w a rest i ht hf hd
  rw [step_of_turn ht]
  exact hostStep_of_decodeCmd (s := { s with turns := rest }) hf hd

/-- Settles O37: the dispatcher's turn and the step with no turn left are both a dispatch step, whose enabling does not read the
turns. -/
theorem stepRunsDispatchedEvent : Obligations.StepRunsDispatchedEvent := by
  intro s
  constructor
  · intro e rest i hf hc hm hq hd
    have hen : s.dispatchEnabled = true := (dispatchEnabled_iff s).mpr ⟨hf, hc, by simp [hq], hm⟩
    constructor
    · intro later ht
      rw [step_of_turn ht]
      exact dispatchStep_of_decodeEv (s := { s with turns := later }) hen hq hd
    · intro ht
      rw [step_of_no_turn ht]
      exact dispatchStep_of_decodeEv hen hq hd
  · intro hoff
    have hdis : s.dispatchEnabled ≠ true := by
      rw [Ne, dispatchEnabled_iff]
      rintro ⟨hf, hc, hq, hm⟩
      rcases hoff with h | h | h | h
      · exact h hf
      · exact absurd (hc.symm.trans h) nofun
      · exact hq h
      · exact absurd (hm.symm.trans h) nofun
    constructor
    · intro later ht
      rw [step_of_turn ht]
      exact dispatchStep_of_not_enabled (s := { s with turns := later }) hdis
    · intro ht
      rw [step_of_no_turn ht]
      exact dispatchStep_of_not_enabled hdis

end Sys2Proof.Proofs
end

section
/-!
PROOFS. The checks of a command step in their order and its one answer (spec/40_common_procedures.md R102), and that no step of a
run from reset stops (R108, R216).
-/

namespace Sys2Proof.Proofs

open Sys2Proof.Machine Sys2Proof.Safety

/-! ## The checks of a command -/

/-- The first of the checks 3 and 4 of R102 that a command fails; IRQ_HANDLER's check of R78 is its own (R144). -/
def failedCheck (i : Instr) (s : State) : Option FaultCode :=
  if ¬ i.WellFormed then some .nullHandle
  else if needsCriticalSection i = true ∧ s.csHeld = false then some .notInCs
  else if i = .csEnter ∧ s.csHeld = true then some .csNested
  else if i = .csExit ∧ s.csHeld = false then some .csNotHeld
  else if i = .irqHandler ∧ s.params.irqDispatch = .autonomous then some .illegalEncoding
  else if i = .irqHandler ∧ s.csHeld = true then some .dispatchInCs
  else none

/-- What the checks leave to do: a fault where one fails, else the command's rule and its answer. It stops only where there is no
rule, which is IRQ_HANDLER at a word that is no event (log 11). -/
def checkedCommand (i : Instr) (s : State) : StepOut :=
  (failedCheck i s).elim ((commandRule i s).elim (.fault .undecodableEvent) finish) fun c => .next (s.raiseFault c)

section
variable {i : Instr} {s : State}

theorem checkedCommand_failed {c : FaultCode} (h : failedCheck i s = some c) :
    checkedCommand i s = .next (s.raiseFault c) := by
  rw [checkedCommand, h, Option.elim_some]

theorem checkedCommand_passed {r : State × Word} (h : failedCheck i s = none) (hr : commandRule i s = some r) :
    checkedCommand i s = finish r := by
  rw [checkedCommand, h, hr, Option.elim_none, Option.elim_some]

theorem failedCheck_illFormed (h : ¬ i.WellFormed) : failedCheck i s = some .nullHandle := if_pos h

theorem failedCheck_outside (hw : i.WellFormed) (hn : needsCriticalSection i = true) (hc : s.csHeld = false) :
    failedCheck i s = some .notInCs := by
  simp [failedCheck, hw, hn, hc]

/-- Every command that passes its guard (R102 check 4). -/
theorem failedCheck_none (hw : i.WellFormed) (hn : needsCriticalSection i = true → s.csHeld = true)
    (henter : i = .csEnter → s.csHeld = false) (hexit : i = .csExit → s.csHeld = true)
    (hirq : i = .irqHandler → s.csHeld = false ∧ s.params.irqDispatch = .hostCalled) : failedCheck i s = none := by
  unfold failedCheck
  rw [if_neg (not_not_intro hw), if_neg, if_neg, if_neg, if_neg, if_neg]
  · rintro ⟨hi, hc⟩
    simp [hirq hi] at hc
  · rintro ⟨hi, hm⟩
    simp [hirq hi] at hm
  · rintro ⟨hi, hc⟩
    simp [hexit hi] at hc
  · rintro ⟨hi, hc⟩
    simp [henter hi] at hc
  · rintro ⟨hi, hc⟩
    simp [hn hi] at hc

theorem failedCheck_inside (hw : i.WellFormed) (hn : needsCriticalSection i = true) (hc : s.csHeld = true) :
    failedCheck i s = none :=
  failedCheck_none hw (fun _ => hc) (by rintro rfl; cases hn) (fun _ => hc) (by rintro rfl; cases hn)

/-- A command that needs the critical section checks nothing else. -/
theorem inCriticalSection_checked {r : State × Word} (hw : i.WellFormed) (hn : needsCriticalSection i = true)
    (hr : commandRule i s = some r) : inCriticalSection s (finish r) = checkedCommand i s := by
  cases hc : s.csHeld with
  | false => exact (inCriticalSection_free hc).trans (checkedCommand_failed (failedCheck_outside hw hn hc)).symm
  | true =>
    exact (inCriticalSection_held hc).trans (checkedCommand_passed (failedCheck_inside hw hn hc) hr).symm

/-- IRQ_HANDLER where no event waits (R144). -/
theorem commandRule_irqHandler_nil (h : s.evq = []) : commandRule .irqHandler s = some (s, respOk) := by
  simp only [commandRule, h]

/-- IRQ_HANDLER where an event waits (R144). -/
theorem commandRule_irqHandler_cons {e : Word} {rest : List Word} (h : s.evq = e :: rest) :
    commandRule .irqHandler s = (performHead e s).map fun t => (t, respOk) := by
  simp only [commandRule, h]

/-- IRQ_HANDLER's effect is its rule, or the model's stop (log 11). -/
theorem irqHandlerRule_eq (s : State) :
    irqHandlerRule s = (commandRule .irqHandler s).elim (.fault .undecodableEvent) finish := by
  unfold irqHandlerRule
  cases hq : s.evq with
  | nil => rw [commandRule_irqHandler_nil hq]; rfl
  | cons e rest =>
    rw [commandRule_irqHandler_cons hq]
    dsimp only
    cases performHead e s <;> rfl

/-- A command is its checks and then its rule (R102). -/
theorem exec_eq_checkedCommand (he : i.isEvent = false) (s : State) : exec i s = checkedCommand i s := by
  by_cases hw : i.WellFormed
  · cases i with
    | sleep | receive | energyDetection | cca | continuousCarrier | currentState | channelUpdate | ccaCfgUpdate =>
      exact inCriticalSection_checked hw rfl rfl
    | transmit frame c =>
      have hf : frame ≠ noHandle := by simpa [Instr.WellFormed, Instr.illFormed] using hw
      exact (withHandle_some hf).trans (inCriticalSection_checked hw rfl rfl)
    | notifyBufferFree b =>
      have hb : b ≠ noHandle := by simpa [Instr.WellFormed, Instr.illFormed] using hw
      exact (withHandle_some hb).trans (inCriticalSection_checked hw rfl rfl)
    | irqHandler =>
      simp only [exec, execIrqHandler, irqHandlerRule_eq]
      cases hm : s.params.irqDispatch with
      | autonomous => simp [checkedCommand, failedCheck, Instr.illFormed, needsCriticalSection, faulting, hm]
      | hostCalled =>
        cases hc : s.csHeld <;>
          simp [checkedCommand, failedCheck, Instr.illFormed, needsCriticalSection, faulting, hm, hc]
    | csEnter | csExit =>
      simp only [exec, execCsEnter, execCsExit]
      cases hc : s.csHeld <;>
        simp [checkedCommand, failedCheck, Instr.illFormed, needsCriticalSection, commandRule, faulting, hc]
    | cfgSetChannel | cfgSetCca => rfl
    | _ => cases he
  · exact (exec_of_illFormed hw s).2.trans (checkedCommand_failed (failedCheck_illFormed hw)).symm

end

/-! ## A command has a rule, and its rule answers once -/

/-- What is performed at the head of the queue is the event its word decodes to (R108). -/
theorem performHead_some {e : Word} {s u : State} (h : performHead e s = some u) :
    ∃ i, decodeEv e = .ok i ∧ performEvent i s.dropHead = some u := by
  unfold performHead at h
  cases hd : decodeEv e with
  | error x => rw [hd] at h; cases h
  | ok i =>
    rw [hd] at h
    exact ⟨i, rfl, h⟩

/-- An event word at the head of the queue is performed (R108). -/
theorem performHead_of_isEventWord {e : Word} (he : isEventWord e = true) (s : State) :
    ∃ i u, decodeEv e = .ok i ∧ performEvent i s.dropHead = some u ∧ performHead e s = some u := by
  obtain ⟨i, hd⟩ := (isEventWord_iff e).mp he
  obtain ⟨u, hu, -⟩ := exec_event_next (decodeEv_isEvent hd) s.dropHead
  exact ⟨i, u, hd, hu, by rw [performHead, hd]; exact hu⟩

/-- Every command has a rule where the queued words are event words. -/
theorem commandRule_isSome {i : Instr} {s : State} (he : i.isEvent = false) (hq : ∀ e ∈ s.evq, isEventWord e = true) :
    ∃ r, commandRule i s = some r := by
  cases i with
  | irqHandler =>
    cases hev : s.evq with
    | nil => exact ⟨_, commandRule_irqHandler_nil hev⟩
    | cons e rest =>
      obtain ⟨-, u, -, -, hu⟩ := performHead_of_isEventWord (hq e (by simp [hev])) s
      exact ⟨(u, respOk), by rw [commandRule_irqHandler_cons hev, hu, Option.map_some]⟩
  | evRxStart | evRxAddrMatch | evRxComplete | evTxComplete | evAckReceived | evAckTimeout | evEdComplete | evCcaComplete
  | evDisabled | evTsGrant | evTsRevoke => cases he
  | _ => exact ⟨_, rfl⟩

/-- No rule raises a fault or answers by itself: that is left to the checks and to the end of the step. -/
theorem commandRule_fault_responses {i : Instr} {s u : State} {w : Word} (hw : i.WellFormed)
    (h : commandRule i s = some (u, w)) : u.fault = s.fault ∧ u.responses = s.responses := by
  by_cases hi : i = .irqHandler
  · subst hi
    cases hq : s.evq with
    | nil =>
      cases (commandRule_irqHandler_nil hq).symm.trans h
      exact ⟨rfl, rfl⟩
    | cons e rest =>
      rw [commandRule_irqHandler_cons hq] at h
      obtain ⟨v, hv, hr⟩ := Option.map_eq_some_iff.mp h
      cases hr
      obtain ⟨j, -, hk⟩ := performHead_keeps hq hv
      exact ⟨hk.untouched.fault, hk.untouched.responses⟩
  · have hk := commandRule_keeps hw hi h
    exact ⟨hk.untouched.fault, hk.untouched.responses⟩

/-- A command that passes its checks answers exactly once, without a fault, and settled (R102 check 5). -/
theorem exec_of_passed {i : Instr} {s : State} (he : i.isEvent = false) (hw : i.WellFormed) (hpass : failedCheck i s = none)
    (hq : ∀ e ∈ s.evq, isEventWord e = true) :
    ∃ t r, exec i s = .next t ∧ t.fault = s.fault ∧ t.responses = s.responses ++ [r] ∧
      (t.state.cfgImmediate = true → t.pendingChannel = false ∧ t.pendingCca = false) := by
  obtain ⟨⟨u, w⟩, hr⟩ := commandRule_isSome he hq
  obtain ⟨hfault, hresponses⟩ := commandRule_fault_responses hw hr
  refine ⟨(settled u).respond w, w, ?_, hfault, congrArg (· ++ [w]) hresponses, ?_⟩
  · rw [exec_eq_checkedCommand he, checkedCommand_passed hpass hr]
    exact finish_eq u w
  · intro (hidle : u.state.cfgImmediate = true)
    simp [settled, hidle]

/-- Settles O41: which check fails first is `failedCheck`, and `exec_of_passed` is the rest. -/
theorem commandStepChecks : Obligations.CommandStepChecks := by
  intro s w a
  refine ⟨fun hf => if_neg hf, fun hf => ⟨fun hno => ?_, fun i hd => ?_⟩⟩
  · exact commandDecoderExact.2 w a s hf hno
  · have he := decodeCmd_isCommand hd
    have fails : ∀ c, failedCheck i s = some c → hostStep w a s = faults s c.code := fun c hc => by
      rw [hostStep_of_decodeCmd hf hd, exec_eq_checkedCommand he, checkedCommand_failed hc]
      rfl
    refine ⟨fun hw => fails _ (failedCheck_illFormed hw), fun hw hn hc => fails _ (failedCheck_outside hw hn hc), ?_, ?_, ?_,
      fun hw hn henter hexit hirq hq => ?_⟩
    · rintro rfl hc
      exact fails .csNested (by simp [failedCheck, Instr.illFormed, needsCriticalSection, hc])
    · rintro rfl hc
      exact fails .csNotHeld (by simp [failedCheck, Instr.illFormed, needsCriticalSection, hc])
    · rintro rfl hc
      have hm := ((decodeCmd_ok_iff ..).mp hd).2.1 rfl
      exact fails .dispatchInCs (by simp [failedCheck, Instr.illFormed, needsCriticalSection, hc, hm])
    · have hmode : i = .irqHandler → s.params.irqDispatch = .hostCalled := ((decodeCmd_ok_iff ..).mp hd).2.1
      have hpass := failedCheck_none hw hn henter hexit fun hi => ⟨hirq hi, hmode hi⟩
      rw [hostStep_of_decodeCmd hf hd, ← hf]
      exact exec_of_passed he hw hpass hq

/-! ## No step stops -/

/-- Where the queued words are event words, every instruction gives a next state. -/
theorem exec_next {s : State} (hq : ∀ e ∈ s.evq, isEventWord e = true) (i : Instr) : ∃ t, exec i s = .next t := by
  cases he : i.isEvent with
  | true =>
    obtain ⟨t, -, ht⟩ := exec_event_next he s
    exact ⟨_, ht⟩
  | false =>
    rw [exec_eq_checkedCommand he]
    cases hc : failedCheck i s with
    | some c => exact ⟨_, checkedCommand_failed hc⟩
    | none =>
      obtain ⟨r, hr⟩ := commandRule_isSome he hq
      exact ⟨_, checkedCommand_passed hc hr⟩

theorem dispatchStep_next {s : State} (hq : ∀ e ∈ s.evq, isEventWord e = true) : ∃ t, dispatchStep s = .next t := by
  rcases dispatchStep_cases s with ⟨-, hs⟩ | ⟨-, e, rest, hev, ⟨x, hx, -⟩ | ⟨i, -, hs⟩⟩
  · exact ⟨_, hs⟩
  · obtain ⟨i, hd⟩ := (isEventWord_iff e).mp (hq e (by simp [hev]))
    cases hx.symm.trans hd
  · obtain ⟨t, ht⟩ := exec_next (s := { s with evq := rest }) (fun e' h => hq e' (hev ▸ List.mem_cons_of_mem e h)) i
    exact ⟨t, hs.trans ht⟩

theorem takeTurn_next {s : State} (hq : ∀ e ∈ s.evq, isEventWord e = true) (u : Turn) : ∃ t, takeTurn u s = .next t := by
  cases u with
  | host w a =>
    rcases hostStep_cases w a s with ⟨-, hs⟩ | ⟨-, -, hs⟩ | ⟨-, i, -, hs⟩
    · exact ⟨_, hs⟩
    · exact ⟨_, hs⟩
    · obtain ⟨t, ht⟩ := exec_next hq i
      exact ⟨t, hs.trans ht⟩
  | radio e | arbiter e =>
    rcases deliveryStep_cases e s with ⟨-, hs⟩ | ⟨-, hs⟩
    · exact ⟨_, hs⟩
    · exact ⟨_, hs⟩
  | dispatcher => exact dispatchStep_next hq
  | reset => exact ⟨_, rfl⟩

/-- The model's one stop is at a queued word that is no event (log 11). -/
theorem step_next {s : State} (hq : ∀ e ∈ s.evq, isEventWord e = true) : ∃ t, step s = .next t := by
  rcases step_cases s with ⟨u, rest, -, hs⟩ | ⟨-, hs⟩
  · obtain ⟨t, ht⟩ := takeTurn_next (s := { s with turns := rest }) hq u
    exact ⟨t, hs.trans ht⟩
  · obtain ⟨t, ht⟩ := dispatchStep_next hq
    exact ⟨t, hs.trans ht⟩

/-- Settles O46: a reachable queue holds event words (the invariant), and then `step_next`. -/
theorem reachableStatesNeverStop : Obligations.ReachableStatesNeverStop := by
  intro s hr
  have hq := (blockInv_of_reachable hr).queue_decodes
  exact ⟨fun e he => (isEventWord_iff e).mp (hq e he), step_next hq⟩

end Sys2Proof.Proofs
end

section
/-!
PROOFS. The transition requests against the legality matrix (spec/41_transition_requests.md R126): a request that fails writes
nothing (R103), and a RECEIVE that finds no buffer is replayed (R104, R141, R249).
-/

namespace Sys2Proof.Proofs

open Sys2Proof.Machine Sys2Proof.Safety

/-! ## Each request answers its entry of the matrix -/

/-- A request's rule answers the word of its entry, and where that is no success it has written nothing but the draw it made
(R103; log 6). -/
structure AnswersVerdict (s : State) (v : Verdict) (r : State × Word) : Prop where
  word : r.2 = v.word
  unwritten : v ≠ .ok → ∃ rest n, r.1 = { s with abortAnswers := rest, drawIx := n }

theorem AnswersVerdict.ok (s u : State) : AnswersVerdict s .ok (u, respOk) := ⟨rfl, fun h => absurd rfl h⟩

theorem AnswersVerdict.failI (s : State) : AnswersVerdict s .failI (s, respFail .illegalState) :=
  ⟨rfl, fun _ => ⟨s.abortAnswers, s.drawIx, rfl⟩⟩

theorem AnswersVerdict.failR (s : State) : AnswersVerdict s .failR (s, respFail .resourceUnavailable) :=
  ⟨rfl, fun _ => ⟨s.abortAnswers, s.drawIx, rfl⟩⟩

/-- R120; a draw that says the reception is not abortable is consumed (log 6). -/
theorem sleepRule_answers (s : State) : AnswersVerdict s (sleepColumn s.state s.resume s.drawAbortable.1) (sleepRule s) := by
  unfold sleepRule
  cases s.state with
  | waitingTimeslot =>
    cases s.resume with
    | receive => exact .ok s _
    | continuousCarrier => exact .failI s
  | waitingRxFrame => exact .ok s _
  | rxHeader =>
    cases s.drawAbortable.1 with
    | true => exact .ok s _
    | false => exact ⟨rfl, fun _ => drawAbortable_frame s⟩
  | _ => exact .failI s

/-- R121. -/
theorem receiveRule_answers (s : State) : AnswersVerdict s (receiveColumn s.state) (receiveRule s) := by
  unfold receiveRule
  cases s.state with
  | waitingTimeslot =>
    cases s.resume with
    | receive | continuousCarrier => exact .ok s _
  | sleep | continuousCarrier | waitingRxFrame | rxHeader | rxFrame | txAck => exact .ok s _
  | _ => exact .failI s

/-- R122. -/
theorem transmitRule_answers (frame : Handle) (c : Bool) (s : State) :
    AnswersVerdict s (transmitColumn s.state) (transmitRule frame c s) := by
  unfold transmitRule
  cases s.state with
  | waitingRxFrame | rxHeader | rxFrame => exact .ok s _
  | waitingTimeslot => exact .failR s
  | _ => exact .failI s

/-- R111 and the shape of R123 to R125. -/
theorem probeRule_answers (s start : State) :
    AnswersVerdict s (probeColumn s.state s.tsGranted s.resume) (probeRule s start) := by
  unfold probeRule State.probeSourceCheck
  cases s.state with
  | sleep =>
    cases s.tsGranted with
    | true => exact .ok s start
    | false => exact .failR s
  | waitingTimeslot =>
    cases s.resume with
    | continuousCarrier => exact .failI s
    | receive =>
      cases s.tsGranted with
      | true => exact .ok s start
      | false => exact .failR s
  | waitingRxFrame | rxHeader | rxFrame | txAck => exact .ok s start
  | _ => exact .failI s

/-- A transition request is a command that needs the critical section, and its rule answers the matrix (R126). -/
theorem commandRule_answers {i : Instr} {s : State} {v : Verdict} (h : legality i s = some v) :
    i.isEvent = false ∧ needsCriticalSection i = true ∧ ∃ r, commandRule i s = some r ∧ AnswersVerdict s v r := by
  cases i with
  | sleep => cases h; exact ⟨rfl, rfl, _, rfl, sleepRule_answers s⟩
  | receive => cases h; exact ⟨rfl, rfl, _, rfl, receiveRule_answers s⟩
  | transmit frame c => cases h; exact ⟨rfl, rfl, _, rfl, transmitRule_answers frame c s⟩
  | energyDetection | cca | continuousCarrier => cases h; exact ⟨rfl, rfl, _, rfl, probeRule_answers s _⟩
  | _ => cases h

/-- A well-formed transition request in the critical section runs its rule and answers its entry (R102, R126). -/
theorem exec_request {i : Instr} {s : State} {v : Verdict} (h : legality i s = some v) (hw : i.WellFormed)
    (hc : s.csHeld = true) : ∃ u, exec i s = .next ((settled u).respond v.word) ∧ u.responses = s.responses ∧
      (v ≠ .ok → ∃ rest n, u = { s with abortAnswers := rest, drawIx := n }) := by
  obtain ⟨he, hn, ⟨u, w⟩, hr, ⟨rfl : w = v.word, hunwritten⟩⟩ := commandRule_answers h
  refine ⟨u, ?_, (commandRule_fault_responses hw hr).2, hunwritten⟩
  rw [exec_eq_checkedCommand he, checkedCommand_passed (failedCheck_inside hw hn hc) hr, finish_eq]
  rfl

/-- Where no update waits in a CfgImmediate state, `settle()` writes nothing (R47, R107). -/
theorem settled_of_blockInv {s : State} (h : BlockInv s) : settled s = s := by
  cases hidle : s.state.cfgImmediate with
  | false => exact settled_of_not_immediate hidle
  | true =>
    obtain ⟨hchannel, hcca⟩ := h.settled hidle
    exact settled_of_no_update hchannel hcca

/-- Settles O49: the rule writes nothing but the draw (`exec_request`), and then `settle()` has nothing to apply (R47). -/
theorem failedRequestWritesNothing : Obligations.FailedRequestWritesNothing := by
  intro i s t v hinv hv hw hc hx
  obtain ⟨u, hu, hresponses, hunwritten⟩ := exec_request hv hw hc
  cases hu.symm.trans hx
  have answer : ((settled u).respond v.word).responses = s.responses ++ [v.word] := congrArg (· ++ [v.word]) hresponses
  have unwritten : v ≠ .ok → SameRegisters s ((settled u).respond v.word) := fun hne => by
    obtain ⟨rest, n, rfl⟩ := hunwritten hne
    rw [settled_of_blockInv (blockInv_ownFields hinv ..)]
    rfl
  cases v with
  | ok => exact .inl ⟨answer, rfl⟩
  | failI => exact .inr ⟨.inl answer, nofun, unwritten nofun⟩
  | failR => exact .inr ⟨.inr answer, nofun, unwritten nofun⟩

/-! ## A receive intent without a buffer -/

/-- The listening path where the pool has no buffer waits for one (R104). -/
theorem listening_of_no_buffer {s : State} {rest : List Handle} (hb : s.rxBuffer = noHandle)
    (hp : s.poolAnswers = noHandle :: rest) :
    listening s = applied { s with
      poolAnswers := rest, rxBuffer := noHandle, resume := .receive, pendingRx := true, state := .waitingTimeslot } := by
  have hdraw : bufferFor s = (noHandle, { s with poolAnswers := rest }) := by
    simp only [bufferFor, hp]
    exact if_neg (not_not_intro hb)
  rw [listening, armed, hdraw]
  rfl

/-- RECEIVE in Sleep takes the listening path (R121). -/
theorem exec_receive_sleep {s : State} (hs : s.state = .sleep) (hc : s.csHeld = true) :
    exec .receive s = answers (listening s) 0x00000001#32 := by
  have hr : receiveRule s = (s.enterRxListen, respOk) := by simp only [receiveRule, hs]
  rw [exec, execReceive, inCriticalSection_held hc, hr, finish, settle_enterRxListen]
  rfl

/-- NOTIFY_BUFFER_FREE to an idle-armed block that has the timeslot starts the reception (R141). -/
theorem exec_notifyBufferFree_idleArmed {s : State} {b : Handle} (hb : b ≠ noHandle) (hc : s.csHeld = true)
    (ha : s.idleArmed = true) (hg : s.tsGranted = true) :
    exec (.notifyBufferFree b) s =
      answers (settled { s with rxBuffer := b, pendingRx := false, state := .waitingRxFrame }) 0x00000009#32 := by
  have hr : notifyBufferFreeRule b s =
      ({ s with rxBuffer := b, pendingRx := false, state := .waitingRxFrame }, respTaken) := by
    rw [notifyBufferFreeRule, if_pos ha, if_pos hg]
  rw [exec, execNotifyBufferFree, withHandle_some hb, inCriticalSection_held hc, hr, finish_eq]
  rfl

/-- Settles O58: the two steps in turn. -/
theorem deferredReceiveReplay : Obligations.DeferredReceiveReplay := by
  intro s b rest hs hc hg hbuffer hpool hb
  have hreceive := exec_receive_sleep hs hc
  rw [listening_of_no_buffer hbuffer hpool] at hreceive
  refine ⟨_, _, hreceive, rfl, exec_notifyBufferFree_idleArmed hb hc rfl hg, rfl, rfl, rfl, ?_⟩
  exact List.append_assoc s.responses [0x00000001#32] [0x00000009#32]

end Sys2Proof.Proofs
end

section
/-!
PROOFS. The registers that no event's rule reads or writes, and what follows: the two ways of dispatch agree (R101, R144), and the
applied configuration changes only in `settle()` (spec/40_common_procedures.md R107, R247).
-/

namespace Sys2Proof.Proofs

open Sys2Proof.Machine Sys2Proof.Safety

/-! ## What an event's rule neither reads nor writes -/

/-- The fields of the state that stand behind the rule of an event: the configuration, the guard, the queue, the fault register,
`ed_time`, and of the model's own the responses, the parameters and the turns. -/
structure Backdrop where
  cfgChannel : BitVec 8
  hwChannel : BitVec 8
  pendingChannel : Bool
  cfgCca : BitVec 16
  hwCca : BitVec 16
  pendingCca : Bool
  csHeld : Bool
  evq : List Word
  fault : BitVec 8
  edTime : Word
  responses : List Word
  params : Params
  turns : List Turn

/-- `s` in front of the backdrop `b`. -/
def Backdrop.behind (b : Backdrop) (s : State) : State :=
  { s with
    cfgChannel := b.cfgChannel, hwChannel := b.hwChannel, pendingChannel := b.pendingChannel,
    cfgCca := b.cfgCca, hwCca := b.hwCca, pendingCca := b.pendingCca, csHeld := b.csHeld, evq := b.evq, fault := b.fault,
    edTime := b.edTime, responses := b.responses, params := b.params, turns := b.turns }

/-- The backdrop of a state. -/
def backdropOf (s : State) : Backdrop := { s with }

theorem backdropOf_behind (s : State) : (backdropOf s).behind s = s := rfl

namespace Backdrop

variable (b : Backdrop) (s : State)

@[simp] theorem behind_state : (b.behind s).state = s.state := rfl
@[simp] theorem behind_rxBuffer : (b.behind s).rxBuffer = s.rxBuffer := rfl
@[simp] theorem behind_jobAckReq : (b.behind s).jobAckReq = s.jobAckReq := rfl
@[simp] theorem behind_poolAnswers : (b.behind s).poolAnswers = s.poolAnswers := rfl
@[simp] theorem behind_drawIx : (b.behind s).drawIx = s.drawIx := rfl

/-- The listening path (R104). -/
theorem enterRxListen_behind : (b.behind s).enterRxListen = b.behind s.enterRxListen := by
  have hdraw : bufferFor (b.behind s) = ((bufferFor s).1, b.behind (bufferFor s).2) := by
    by_cases h : s.rxBuffer = noHandle
    · cases hp : s.poolAnswers <;> simp [bufferFor, behind, h, hp]
    · simp [bufferFor, h]
  rw [enterRxListen_eq, enterRxListen_eq, armed, hdraw]
  rfl

/-- The end of a job (R106). -/
theorem completeJob_behind (o : TxOutcome) : (b.behind s).completeJob o = b.behind (s.completeJob o) :=
  enterRxListen_behind b { s.out (.txDone o s.jobFrame) with job := none }

theorem rxStartRule_behind : rxStartRule (b.behind s) = b.behind (rxStartRule s) := by
  simp only [rxStartRule, behind_state]
  cases s.state <;> rfl

theorem rxAddrMatchRule_behind (addressed : Bool) :
    rxAddrMatchRule addressed (b.behind s) = b.behind (rxAddrMatchRule addressed s) := by
  simp only [rxAddrMatchRule, behind_state]
  cases s.state with
  | rxHeader => cases addressed <;> rfl
  | _ => rfl

theorem rxCompleteRule_behind (ackRequested : Bool) :
    rxCompleteRule ackRequested (b.behind s) = b.behind (rxCompleteRule ackRequested s) := by
  simp only [rxCompleteRule, behind_state]
  cases s.state with
  | rxFrame =>
    cases ackRequested with
    | true => rfl
    | false => exact enterRxListen_behind b { s.out (.rxDone s.rxBuffer) with rxBuffer := noHandle }
  | _ => rfl

theorem txCompleteRule_behind : txCompleteRule (b.behind s) = b.behind (txCompleteRule s) := by
  simp only [txCompleteRule, behind_state]
  cases s.state with
  | txFrame =>
    cases ha : s.jobAckReq with
    | true => simp only [behind_jobAckReq, ha, reduceIte]; rfl
    | false =>
      simp only [behind_jobAckReq, ha, reduceIte, Bool.false_eq_true]
      exact completeJob_behind b s _
  | txAck => exact enterRxListen_behind b s
  | _ => rfl

theorem ackReceivedRule_behind (matching : Bool) :
    ackReceivedRule matching (b.behind s) = b.behind (ackReceivedRule matching s) := by
  simp only [ackReceivedRule, behind_state]
  cases s.state with
  | rxAck =>
    cases matching with
    | true => exact completeJob_behind b s _
    | false => rfl
  | _ => rfl

theorem ackTimeoutRule_behind : ackTimeoutRule (b.behind s) = b.behind (ackTimeoutRule s) := by
  simp only [ackTimeoutRule, behind_state]
  cases s.state with
  | rxAck => exact completeJob_behind b s _
  | _ => rfl

theorem edCompleteRule_behind (energy : BitVec 8) :
    edCompleteRule energy (b.behind s) = b.behind (edCompleteRule energy s) := by
  simp only [edCompleteRule, behind_state]
  cases s.state with
  | energyDetection => exact enterRxListen_behind b (s.out _)
  | _ => rfl

theorem ccaCompleteRule_behind (busy : Bool) :
    ccaCompleteRule busy (b.behind s) = b.behind (ccaCompleteRule busy s) := by
  simp only [ccaCompleteRule, behind_state]
  cases s.state with
  | ccaBeforeTx =>
    cases busy with
    | true => exact completeJob_behind b s _
    | false => rfl
  | cca => exact enterRxListen_behind b (s.out _)
  | _ => rfl

theorem disabledRule_behind : disabledRule (b.behind s) = b.behind (disabledRule s) := by
  simp only [disabledRule, behind_state]
  cases s.state <;> rfl

theorem tsGrantRule_behind : tsGrantRule (b.behind s) = b.behind (tsGrantRule s) := by
  by_cases hs : s.state = .waitingTimeslot
  · rw [tsGrantRule_waiting (s := b.behind s) hs, tsGrantRule_waiting hs]
    by_cases hr : s.resume = .continuousCarrier
    · rw [if_pos (show (b.behind s).resume = _ from hr), if_pos hr]
      rfl
    · rw [if_neg (show ¬ (b.behind s).resume = _ from hr), if_neg hr]
      by_cases hp : s.pendingRx = true
      · rw [if_pos (show (b.behind s).pendingRx = _ from hp), if_pos hp]
        rfl
      · rw [if_neg (show ¬ (b.behind s).pendingRx = _ from hp), if_neg hp]
        exact enterRxListen_behind b { s with tsGranted := true }
  · rw [tsGrantRule_not_waiting (s := b.behind s) hs, tsGrantRule_not_waiting hs]
    rfl

theorem tsRevokeRule_behind : tsRevokeRule (b.behind s) = b.behind (tsRevokeRule s) := by
  have hrevoked : { b.behind s with tsGranted := false } = b.behind { s with tsGranted := false } := rfl
  unfold tsRevokeRule
  rw [hrevoked]
  generalize { s with tsGranted := false } = r
  simp only [behind_state, dropIfReceiving_eq]
  cases r.state with
  | waitingRxFrame | rxHeader | rxFrame | txAck => exact enterRxListen_behind b r
  | ccaBeforeTx | txFrame | rxAck => exact completeJob_behind b r _
  | energyDetection | cca => exact enterRxListen_behind b (r.out _)
  | sleep | waitingTimeslot | disabling | continuousCarrier => rfl

/-- An event's rule does not see the backdrop. -/
theorem performEvent_behind (i : Instr) : performEvent i (b.behind s) = (performEvent i s).map b.behind := by
  cases i with
  | evRxStart => exact congrArg some (rxStartRule_behind b s)
  | evRxAddrMatch f => exact congrArg some (rxAddrMatchRule_behind b s f)
  | evRxComplete f => exact congrArg some (rxCompleteRule_behind b s f)
  | evTxComplete => exact congrArg some (txCompleteRule_behind b s)
  | evAckReceived f => exact congrArg some (ackReceivedRule_behind b s f)
  | evAckTimeout => exact congrArg some (ackTimeoutRule_behind b s)
  | evEdComplete v => exact congrArg some (edCompleteRule_behind b s v)
  | evCcaComplete f => exact congrArg some (ccaCompleteRule_behind b s f)
  | evDisabled => exact congrArg some (disabledRule_behind b s)
  | evTsGrant => exact congrArg some (tsGrantRule_behind b s)
  | evTsRevoke => exact congrArg some (tsRevokeRule_behind b s)
  | _ => rfl

end Backdrop

/-- An event's rule leaves the backdrop as it was. -/
theorem performEvent_backdrop {i : Instr} {s u : State} (h : performEvent i s = some u) :
    u = (backdropOf s).behind u := by
  have hb := (backdropOf s).performEvent_behind s i
  rw [backdropOf_behind, h] at hb
  exact Option.some.inj hb

/-- The parameters are in the backdrop: an event does the same with others. -/
theorem performEvent_params {i : Instr} {s u : State} (h : performEvent i s = some u) (q : Params) :
    performEvent i { s with params := q } = some { u with params := q } := by
  have hu : { u with params := q } = Backdrop.behind { backdropOf s with params := q } u :=
    congrArg (fun v : State => { v with params := q }) (performEvent_backdrop h)
  rw [hu]
  have hb := Backdrop.performEvent_behind { backdropOf s with params := q } s i
  rwa [h] at hb

/-! ## The two ways of dispatch -/

/-- The dispatch step that is enabled performs the event at the head and settles (R101). -/
theorem dispatchStep_of_performHead {s u : State} {e : Word} {rest : List Word} (hen : s.dispatchEnabled = true)
    (hq : s.evq = e :: rest) {i : Instr} (hd : decodeEv e = .ok i) (hu : performEvent i s.dropHead = some u) :
    dispatchStep s = .next (settled u) := by
  rw [State.dropHead, hq, List.tail_cons] at hu
  rw [dispatchStep_of_decodeEv hen hq hd, exec_of_performEvent hu, settle_eq]

/-- IRQ_HANDLER of a host-dispatched block performs the event at the head, settles and answers (R144). -/
theorem hostStep_irqHandler {s u : State} {e : Word} {rest : List Word} (a : Word) (hf : s.fault = 0#8)
    (hc : s.csHeld = false) (hm : s.params.irqDispatch = .hostCalled) (hq : s.evq = e :: rest)
    (hu : performHead e s = some u) : hostStep 0x0C000000#32 a s = answers (settled u) 0x00000001#32 := by
  have hd : decodeCmd s.params.irqDispatch 0x0C000000#32 a = .ok .irqHandler :=
    decodeCmd_of_word (i := .irqHandler) rfl (fun _ => hm) nofun
  have hpass : failedCheck .irqHandler s = none := failedCheck_none rfl nofun nofun nofun fun _ => ⟨hc, hm⟩
  have hr : commandRule .irqHandler s = some (u, respOk) := by rw [commandRule_irqHandler_cons hq, hu, Option.map_some]
  rw [hostStep_of_decodeCmd hf hd, exec_eq_checkedCommand rfl, checkedCommand_passed hpass hr, finish_eq]
  rfl

/-- Settles O54: both perform the event at the head, whose rule does not see the parameters. -/
theorem hostCalledDispatchAgrees : Obligations.HostCalledDispatchAgrees := by
  intro s p q a hp hq hf hc hwords hne
  obtain ⟨e, rest, hev⟩ := List.exists_cons_of_ne_nil hne
  obtain ⟨i, u, hd, hu, -⟩ := performHead_of_isEventWord (hwords e (by simp [hev])) { s with params := p }
  have hen : State.dispatchEnabled { s with params := p } = true := (dispatchEnabled_iff _).mpr ⟨hf, hc, hne, hp⟩
  have hu' : performHead e { s with params := q } = some { u with params := q } := by
    rw [performHead, hd]
    exact performEvent_params hu q
  exact ⟨settled u, dispatchStep_of_performHead (s := { s with params := p }) hen hev hd hu,
    hostStep_irqHandler (s := { s with params := q }) a hf hc hq hev hu'⟩

/-! ## The applied configuration -/

/-! ### One configuration over `settle()` -/

/-- One configuration over a step: `hw` becomes `hw'`, the deferral `p` becomes `p'`, and the step ends with the value `cfg'`
configured; `idle` is whether it ends in a CfgImmediate state. -/
structure AppliedWhenIdle {n : Nat} (idle : Bool) (cfg' hw hw' : BitVec n) (p p' : Bool) : Prop where
  changed : hw' ≠ hw → idle = true ∧ hw' = cfg' ∧ p' = false
  cleared : p = true → p' = false → hw' = cfg'
  kept : idle = false → p = true → p' = true

/-- Nothing is applied. -/
theorem AppliedWhenIdle.refl {n : Nat} (idle : Bool) (cfg' hw : BitVec n) (p : Bool) :
    AppliedWhenIdle idle cfg' hw hw p p :=
  ⟨fun h => absurd rfl h, fun h h' => absurd (h.symm.trans h') nofun, fun _ => id⟩

/-- `settle()` applies, after a rule that left `hw` and cleared no deferral (R107). -/
theorem AppliedWhenIdle.settle {n : Nat} (idle : Bool) (cfg' hw : BitVec n) {p p' : Bool} (hp : p = true → p' = true) :
    AppliedWhenIdle idle cfg' hw (if idle && p' then cfg' else hw) p (p' && !idle) := by
  cases p' with
  | false =>
    have hp : p = false := Bool.eq_false_iff.mpr fun h => absurd (hp h) nofun
    subst hp
    constructor <;> simp
  | true => cases idle <;> constructor <;> simp

/-! ### What the rules leave of it -/

/-- The rule of an instruction, before `settle()`: it applies nothing and clears no deferral. -/
structure KeepsDeferral (s u : State) : Prop where
  hwChannel : u.hwChannel = s.hwChannel
  hwCca : u.hwCca = s.hwCca
  pendingChannel : s.pendingChannel = true → u.pendingChannel = true
  pendingCca : s.pendingCca = true → u.pendingCca = true

theorem KeepsDeferral.refl (s : State) : KeepsDeferral s s := ⟨rfl, rfl, id, id⟩

/-- A rule that leaves the backdrop leaves the configuration. -/
theorem KeepsDeferral.of_backdrop {s u : State} (h : u = (backdropOf s).behind u) : KeepsDeferral s u where
  hwChannel := (congrArg State.hwChannel h :)
  hwCca := (congrArg State.hwCca h :)
  pendingChannel := (congrArg State.pendingChannel h).trans
  pendingCca := (congrArg State.pendingCca h).trans

theorem performEvent_keepsDeferral {i : Instr} {s u : State} (h : performEvent i s = some u) : KeepsDeferral s u :=
  .of_backdrop (performEvent_backdrop h)

theorem enterRxListen_keepsDeferral (s : State) : KeepsDeferral s s.enterRxListen :=
  .of_backdrop ((backdropOf s).enterRxListen_behind s)

theorem sleepRule_keepsDeferral (s : State) : KeepsDeferral s (sleepRule s).1 := by
  obtain ⟨rest, n, hdraw⟩ := drawAbortable_frame s
  unfold sleepRule
  cases s.state with
  | waitingTimeslot =>
    dsimp only
    split <;> exact ⟨rfl, rfl, id, id⟩
  | waitingRxFrame => exact ⟨rfl, rfl, id, id⟩
  | rxHeader =>
    dsimp only
    rw [hdraw]
    split <;> exact ⟨rfl, rfl, id, id⟩
  | _ => exact .refl s

theorem receiveRule_keepsDeferral (s : State) : KeepsDeferral s (receiveRule s).1 := by
  unfold receiveRule
  cases s.state with
  | sleep | continuousCarrier => exact enterRxListen_keepsDeferral s
  | waitingTimeslot =>
    dsimp only
    split
    · exact enterRxListen_keepsDeferral s
    · exact .refl s
  | _ => exact .refl s

theorem transmitRule_keepsDeferral (frame : Handle) (c : Bool) (s : State) :
    KeepsDeferral s (transmitRule frame c s).1 := by
  obtain ⟨rest, n, hdraw⟩ := drawAckRequested_frame s frame
  have hjob : KeepsDeferral s (s.startJob frame c) := by
    rw [State.startJob, hdraw]
    exact ⟨rfl, rfl, id, id⟩
  unfold transmitRule
  cases s.state with
  | waitingRxFrame | rxHeader | rxFrame => exact hjob
  | _ => exact .refl s

/-- The probes and the carrier (R110); `start` is the state they start from. -/
theorem probeRule_keepsDeferral {s start : State} (hstart : KeepsDeferral s start) (target : OpState) :
    KeepsDeferral s (probeRule s (start.startProbe target)).1 := by
  unfold probeRule
  cases s.probeSourceCheck with
  | legal =>
    rw [startProbe_eq]
    exact { hstart with }
  | fails r => exact .refl s

theorem notifyBufferFreeRule_keepsDeferral (b : Handle) (s : State) : KeepsDeferral s (notifyBufferFreeRule b s).1 := by
  unfold notifyBufferFreeRule
  split
  · exact ⟨rfl, rfl, id, id⟩
  · exact .refl s

/-- IRQ_HANDLER performs an event (R144). -/
theorem irqHandlerRule_keepsDeferral {s u : State} {w : Word} (h : commandRule .irqHandler s = some (u, w)) :
    KeepsDeferral s u := by
  cases hq : s.evq with
  | nil =>
    cases (commandRule_irqHandler_nil hq).symm.trans h
    exact .refl s
  | cons e rest =>
    rw [commandRule_irqHandler_cons hq] at h
    obtain ⟨v, hv, hr⟩ := Option.map_eq_some_iff.mp h
    cases hr
    obtain ⟨i, -, hu⟩ := performHead_some hv
    exact { performEvent_keepsDeferral hu with }

/-- CHANNEL_UPDATE and CCA_CFG_UPDATE set a deferral (R142, R143); no command clears one. -/
theorem commandRule_keepsDeferral {i : Instr} {s u : State} {w : Word} (h : commandRule i s = some (u, w)) :
    KeepsDeferral s u := by
  have rule : ∀ r : State × Word, some r = some (u, w) → r.1 = u := fun r hr => by cases hr; rfl
  cases i with
  | sleep => exact rule _ h ▸ sleepRule_keepsDeferral s
  | receive => exact rule _ h ▸ receiveRule_keepsDeferral s
  | transmit frame c => exact rule _ h ▸ transmitRule_keepsDeferral frame c s
  | energyDetection d =>
    exact rule _ h ▸ probeRule_keepsDeferral (s := s) (start := { s with edTime := d }) ⟨rfl, rfl, id, id⟩ _
  | cca | continuousCarrier => exact rule _ h ▸ probeRule_keepsDeferral (.refl s) _
  | notifyBufferFree b => exact rule _ h ▸ notifyBufferFreeRule_keepsDeferral b s
  | channelUpdate => exact rule _ h ▸ ⟨rfl, rfl, fun _ => rfl, id⟩
  | ccaCfgUpdate => exact rule _ h ▸ ⟨rfl, rfl, id, fun _ => rfl⟩
  | currentState | csEnter | csExit | cfgSetChannel | cfgSetCca => exact rule _ h ▸ ⟨rfl, rfl, id, id⟩
  | irqHandler => exact irqHandlerRule_keepsDeferral h
  | _ => cases h

/-! ### Over an instruction and a step -/

/-- Both configurations over a step. -/
structure ConfigStep (s t : State) : Prop where
  channel : AppliedWhenIdle t.state.cfgImmediate t.cfgChannel s.hwChannel t.hwChannel s.pendingChannel t.pendingChannel
  cca : AppliedWhenIdle t.state.cfgImmediate t.cfgCca s.hwCca t.hwCca s.pendingCca t.pendingCca

/-- The end of a step (R107). -/
theorem ConfigStep.settled {s u : State} (h : KeepsDeferral s u) : ConfigStep s (settled u) := by
  constructor
  · rw [← h.hwChannel]
    exact .settle _ _ _ h.pendingChannel
  · rw [← h.hwCca]
    exact .settle _ _ _ h.pendingCca

theorem exec_config {i : Instr} {s t : State} (h : exec i s = .next t) : ConfigStep s t := by
  rcases exec_next_cases h with ⟨-, c, rfl⟩ | ⟨-, u, w, hr, rfl⟩ | ⟨-, u, hp, rfl⟩
  · exact ⟨.refl .., .refl ..⟩
  · exact { ConfigStep.settled (commandRule_keepsDeferral hr) with }
  · exact .settled (performEvent_keepsDeferral hp)

theorem step_config {s t : State} (h : step s = .next t) (hreset : ∀ rest, s.turns ≠ .reset :: rest) :
    ConfigStep s t := by
  cases step_effect h with
  | idle | faulted | delivered => exact ⟨.refl .., .refl ..⟩
  | command ht hf hd hx => exact { exec_config hx with }
  | dispatched ht hen hq hd hx => exact { exec_config hx with }
  | reset ht => exact absurd ht (hreset _)

/-- Settles O53, by the two configurations over a step (`step_config`). -/
theorem configurationAppliedOnlyWhenIdle : Obligations.ConfigurationAppliedOnlyWhenIdle := by
  intro s t h hreset
  obtain ⟨hchannel, hcca⟩ := step_config h hreset
  exact ⟨hchannel.changed, hcca.changed, hchannel.cleared, hcca.cleared,
    fun hidle => ⟨hchannel.kept hidle, hcca.kept hidle⟩⟩

end Sys2Proof.Proofs
end

section
/-!
PROOFS. The encoding and the guards that the commands of spec/30_encoding.md R75 share, and the end of a command that passes
them (R76, R102).
-/

namespace Sys2Proof.Proofs

open Sys2Proof.Machine Sys2Proof.Safety

/-! ## Encoding and guards -/

/-- The two words of a command with an argument (R72). -/
theorem encode_of_argument {i : Instr} {a : Word} (o : BitVec 8) (p : BitVec 24) (ho : i.opcode = o) (hp : i.payload = p)
    (ha : i.argument = some a) : encode i = [o ++ p, a] := by
  rw [encode, Instr.word, ho, hp, ha, Option.toList_some]

/-- A 1 in a reserved bit of a command's row is an illegal encoding (R76): what the decoder reads has the row's zeros. -/
theorem reservedBitsFault_of_row {opc : BitVec 8} {n : Nat}
    (hrow : ∀ w a, ∀ r ∈ commandReadings w a, opc = r.opcode → r.reservedFrom = n) : ReservedBitsFault opc n := by
  intro w a s hf hopcode hreserved
  refine commandDecoderExact.2 w a s hf fun i hd => hreserved ?_
  obtain ⟨⟨r, hr, ho, hzero, -⟩, -⟩ := decodeCmd_ok hd
  rwa [hrow w a r hr (hopcode.symm.trans ho)] at hzero

theorem isEvent_of_needsCriticalSection {i : Instr} (hn : needsCriticalSection i = true) : i.isEvent = false := by
  cases i with
  | sleep | receive | transmit | energyDetection | cca | continuousCarrier | currentState | notifyBufferFree
  | channelUpdate | ccaCfgUpdate => rfl
  | _ => cases hn

/-- R102 check 4. -/
theorem exec_outside {i : Instr} (hw : i.WellFormed) (hn : needsCriticalSection i = true) : NeedsCriticalSection i := by
  intro s hc
  rw [exec_eq_checkedCommand (isEvent_of_needsCriticalSection hn), checkedCommand_failed (failedCheck_outside hw hn hc)]
  rfl

/-- A command that passes its guard runs its rule, settles and answers (R102 check 5). -/
theorem exec_inside {i : Instr} {s u : State} {w : Word} (hw : i.WellFormed) (hn : needsCriticalSection i = true)
    (hc : s.csHeld = true) (hr : commandRule i s = some (u, w)) : exec i s = answers (settled u) w := by
  rw [exec_eq_checkedCommand (isEvent_of_needsCriticalSection hn), checkedCommand_passed (failedCheck_inside hw hn hc) hr,
    finish_eq]

/-- Where the rule ends outside CfgImmediate, `settle()` applies nothing (R107). -/
theorem exec_inside_of_not_immediate {i : Instr} {s u : State} {w : Word} (hw : i.WellFormed)
    (hn : needsCriticalSection i = true) (hc : s.csHeld = true) (hr : commandRule i s = some (u, w))
    (hu : u.state.cfgImmediate = false) : exec i s = answers u w := by
  rw [exec_inside hw hn hc hr, settled_of_not_immediate hu]

end Sys2Proof.Proofs
end

section
/-!
PROOFS. The six transition requests of spec/41_transition_requests.md (R120 to R126): what each rule does, by the states it
accepts and refuses, and the tables of the rules from that.
-/

namespace Sys2Proof.Proofs

open Sys2Proof.Machine Sys2Proof.Safety

/-! ## The states outside reception and Sleep -/

/-- Outside RecvFamily and Sleep: the block powers down, transmits, probes or keeps the carrier up. -/
def Busy (st : OpState) : Prop := st.recvFamily = false ∧ st ≠ .sleep

theorem busy_iff (st : OpState) :
    Busy st ↔ st = .disabling ∨ st.txFamily = true ∨ st.probe = true ∨ st = .continuousCarrier := by
  cases st <;> simp [Busy, OpState.recvFamily, OpState.txFamily, OpState.probe]

/-- Where `settle()` applies nothing (R24, R107). -/
theorem not_immediate_iff (st : OpState) :
    st.cfgImmediate = false ↔ Busy st ∨ st = .rxHeader ∨ st = .rxFrame ∨ st = .txAck := by
  cases st <;> simp [Busy, OpState.recvFamily, OpState.cfgImmediate]

theorem Busy.not_immediate {st : OpState} (h : Busy st) : st.cfgImmediate = false := (not_immediate_iff st).mpr (.inl h)

/-! ## The rules -/

section
variable {s : State}

/-! ### SLEEP -/

theorem sleepRule_idle (h : s.state = .waitingTimeslot ∧ s.resume = .receive ∨ s.state = .waitingRxFrame) :
    sleepRule s = (s.powerDown, respOk) := by
  rcases h with ⟨hs, hr⟩ | hs
  · simp only [sleepRule, hs, if_pos hr]
  · simp only [sleepRule, hs]

/-- The draw decides over the reception in progress (R120). -/
theorem sleepRule_rxHeader (hs : s.state = .rxHeader) :
    sleepRule s =
      if s.drawAbortable.1 then (s.drawAbortable.2.powerDown, respOk)
      else (s.drawAbortable.2, respFail .illegalState) := by
  simp only [sleepRule, hs, dropReception_eq]

theorem sleepRule_refused (h : Busy s.state ∨ s.state = .sleep ∨ s.state = .rxFrame ∨ s.state = .txAck ∨
      s.state = .waitingTimeslot ∧ s.resume = .continuousCarrier) :
    sleepRule s = (s, respFail .illegalState) := by
  rcases h with ⟨hrecv, -⟩ | hs | hs | hs | ⟨hs, hr⟩
  · unfold sleepRule
    cases hs : s.state with
    | waitingTimeslot | waitingRxFrame | rxHeader => rw [hs] at hrecv; cases hrecv
    | _ => rfl
  · simp only [sleepRule, hs]
  · simp only [sleepRule, hs]
  · simp only [sleepRule, hs]
  · simp [sleepRule, hs, hr]

/-! ### RECEIVE -/

theorem receiveRule_listens (h : s.state = .sleep ∨ s.state = .continuousCarrier ∨
      s.state = .waitingTimeslot ∧ s.resume = .continuousCarrier) : receiveRule s = (s.enterRxListen, respOk) := by
  rcases h with hs | hs | ⟨hs, hr⟩
  · simp only [receiveRule, hs]
  · simp only [receiveRule, hs]
  · simp only [receiveRule, hs, if_pos hr]

theorem alreadyReceiving_iff (s : State) : alreadyReceiving s = true ↔
    s.state = .waitingTimeslot ∧ s.resume = .receive ∨ s.state = .waitingRxFrame ∨ s.state = .rxHeader ∨
      s.state = .rxFrame ∨ s.state = .txAck := by
  unfold alreadyReceiving
  cases s.state with
  | waitingTimeslot => cases s.resume <;> simp [OpState.recvFamily]
  | _ => simp [OpState.recvFamily]

theorem receiveRule_alreadyReceiving (h : alreadyReceiving s = true) : receiveRule s = (s, respOk) := by
  rcases (alreadyReceiving_iff s).mp h with ⟨hs, hr⟩ | hs | hs | hs | hs
  · simp [receiveRule, hs, hr]
  all_goals simp only [receiveRule, hs]

theorem receiveRule_refused (h : Busy s.state) (hcarrier : s.state ≠ .continuousCarrier) :
    receiveRule s = (s, respFail .illegalState) := by
  obtain ⟨hrecv, hsleep⟩ := h
  unfold receiveRule
  cases hs : s.state with
  | sleep => exact absurd hs hsleep
  | continuousCarrier => exact absurd hs hcarrier
  | waitingTimeslot | waitingRxFrame | rxHeader | rxFrame | txAck => rw [hs] at hrecv; cases hrecv
  | _ => rfl

/-! ### TRANSMIT -/

theorem transmitRule_starts (frame : Handle) (c : Bool)
    (h : s.state = .waitingRxFrame ∨ s.state = .rxHeader ∨ s.state = .rxFrame) :
    transmitRule frame c s = (s.startJob frame c, respOk) := by
  rcases h with hs | hs | hs <;> simp only [transmitRule, hs, dropReception_eq]

theorem transmitRule_waitingTimeslot (frame : Handle) (c : Bool) (hs : s.state = .waitingTimeslot) :
    transmitRule frame c s = (s, respFail .resourceUnavailable) := by
  simp only [transmitRule, hs]

theorem transmitRule_refused (frame : Handle) (c : Bool) (h : Busy s.state ∨ s.state = .sleep ∨ s.state = .txAck) :
    transmitRule frame c s = (s, respFail .illegalState) := by
  rcases h with ⟨hrecv, -⟩ | hs | hs
  · unfold transmitRule
    cases hs : s.state with
    | waitingTimeslot | waitingRxFrame | rxHeader | rxFrame => rw [hs] at hrecv; cases hrecv
    | _ => rfl
  · simp only [transmitRule, hs]
  · simp only [transmitRule, hs]

/-- The job's first state uses the radio (R122). -/
theorem startJob_not_immediate (s : State) (frame : Handle) (c : Bool) :
    (s.startJob frame c).state.cfgImmediate = false := by
  cases c <;> rfl

/-! ### The two probes and the carrier -/

theorem probeRule_legal {start : State} (h : s.probeSourceCheck = .legal) : probeRule s start = (start, respOk) := by
  rw [probeRule, h]

theorem probeRule_fails {start : State} {r : FailReason} (h : s.probeSourceCheck = .fails r) :
    probeRule s start = (s, respFail r) := by
  rw [probeRule, h]

theorem probeSourceCheck_not_granted (h : s.state = .sleep ∧ s.tsGranted = false ∨
      s.state = .waitingTimeslot ∧ s.resume = .receive ∧ s.tsGranted = false) :
    s.probeSourceCheck = .fails .resourceUnavailable := by
  rcases h with ⟨hs, hg⟩ | ⟨hs, hr, hg⟩
  · simp [State.probeSourceCheck, hs, hg]
  · simp [State.probeSourceCheck, hs, hr, hg]

theorem probeSourceCheck_suspended (hs : s.state = .waitingTimeslot) (hr : s.resume = .continuousCarrier) :
    s.probeSourceCheck = .fails .illegalState := by
  simp only [State.probeSourceCheck, hs, if_pos hr]

theorem probeSourceCheck_busy (h : Busy s.state) : s.probeSourceCheck = .fails .illegalState := by
  obtain ⟨hrecv, hsleep⟩ := h
  unfold State.probeSourceCheck
  cases hs : s.state with
  | sleep => exact absurd hs hsleep
  | waitingTimeslot | waitingRxFrame | rxHeader | rxFrame | txAck => rw [hs] at hrecv; cases hrecv
  | _ => rfl

/-- The table of R123 to R125, of any command with the shape they share. -/
theorem probeTable_of_probeRule {i : Instr} {target : OpState} {start : State → State} (hw : i.WellFormed)
    (hn : needsCriticalSection i = true) (ht : target.cfgImmediate = false)
    (hr : ∀ s, commandRule i s = some (probeRule s ((start s).startProbe target))) : ProbeTable i target start := by
  intro s hc
  have rule : ∀ {r}, probeRule s ((start s).startProbe target) = r → commandRule i s = some r := fun h =>
    (hr s).trans (congrArg some h)
  refine ⟨fun h => ?_, fun h => ?_, fun ⟨hs, hres⟩ => ?_, fun h => ?_⟩
  · have hlegal := probeRule_legal (start := (start s).startProbe target) ((probeSourceCheck_legal s).mpr h)
    have hexec := exec_inside_of_not_immediate hw hn hc (rule hlegal) ht
    rwa [startProbe_eq] at hexec
  · exact exec_inside hw hn hc (rule (probeRule_fails (probeSourceCheck_not_granted h)))
  · exact exec_inside hw hn hc (rule (probeRule_fails (probeSourceCheck_suspended hs hres)))
  · have hbusy := (busy_iff s.state).mpr h
    exact exec_inside_of_not_immediate hw hn hc (rule (probeRule_fails (probeSourceCheck_busy hbusy))) hbusy.not_immediate

end

/-! ## SLEEP, RECEIVE, TRANSMIT -/

theorem disabledRule_disabling {s : State} (hs : s.state = .disabling) : disabledRule s = { s with state := .sleep } := by
  simp only [disabledRule, hs]

theorem tsRevokeRule_disabling {s : State} (hs : s.state = .disabling) :
    tsRevokeRule s = { s with tsGranted := false, state := .sleep } := by
  simp only [tsRevokeRule, hs]

/-- Settles O1, by the rule in each group of states. -/
theorem sleepRequest : Obligations.SleepRequest := by
  refine ⟨rfl, reservedBitsFault_of_row (by simp [commandReadings]), exec_outside rfl rfl, fun s hc => ?_, fun s hs => ?_⟩
  · obtain ⟨rest, n, hdraw⟩ := drawAbortable_frame s
    refine ⟨fun h => ?_, fun ⟨hs, hd⟩ => ⟨rest, n, ?_⟩, fun ⟨hs, hd⟩ => ⟨rest, n, ?_⟩, fun h => ?_, fun h => ?_⟩
    · exact exec_inside_of_not_immediate rfl rfl hc (congrArg some (sleepRule_idle h)) rfl
    · have hrule := sleepRule_rxHeader hs
      rw [if_pos hd, hdraw] at hrule
      exact exec_inside_of_not_immediate rfl rfl hc (congrArg some hrule) rfl
    · have hrule := sleepRule_rxHeader hs
      rw [if_neg (by simp [hd]), hdraw] at hrule
      exact exec_inside_of_not_immediate rfl rfl hc (congrArg some hrule) (by rw [hs]; rfl)
    · exact exec_inside rfl rfl hc (congrArg some (sleepRule_refused (by tauto)))
    · have hstates : Busy s.state ∨ s.state = .rxFrame ∨ s.state = .txAck := by rw [busy_iff]; tauto
      exact exec_inside_of_not_immediate rfl rfl hc (congrArg some (sleepRule_refused (by tauto)))
        ((not_immediate_iff _).mpr (by tauto))
  · constructor
    · rw [exec, execEvDisabled, dispatched_eq, disabledRule_disabling hs]
    · rw [exec, execEvTsRevoke, dispatched_eq, tsRevokeRule_disabling hs]

/-- Settles O2, by the rule in each group of states; the listening path settles into `listening` (R104). -/
theorem receiveRequest : Obligations.ReceiveRequest := by
  refine ⟨rfl, reservedBitsFault_of_row (by simp [commandReadings]), exec_outside rfl rfl, fun s hc =>
    ⟨fun h => ?_, fun h => ?_, fun h => ?_, fun h => ?_⟩⟩
  · have hlisten : settled s.enterRxListen = listening s := by rw [← settle_eq, settle_enterRxListen]
    exact hlisten ▸ exec_inside rfl rfl hc (congrArg some (receiveRule_listens h))
  · have hreceiving : alreadyReceiving s = true := (alreadyReceiving_iff s).mpr (by tauto)
    exact exec_inside rfl rfl hc (congrArg some (receiveRule_alreadyReceiving hreceiving))
  · have hreceiving : alreadyReceiving s = true := (alreadyReceiving_iff s).mpr (by tauto)
    exact exec_inside_of_not_immediate rfl rfl hc (congrArg some (receiveRule_alreadyReceiving hreceiving))
      ((not_immediate_iff _).mpr (.inr h))
  · have hbusy : Busy s.state := (busy_iff s.state).mpr (by tauto)
    have hcarrier : s.state ≠ .continuousCarrier := fun hs => by simp [hs, OpState.txFamily, OpState.probe] at h
    exact exec_inside_of_not_immediate rfl rfl hc (congrArg some (receiveRule_refused hbusy hcarrier)) hbusy.not_immediate

theorem transmit_wellFormed {frame : Handle} (c : Bool) (hf : frame ≠ noHandle) : (Instr.transmit frame c).WellFormed :=
  if_neg hf

/-- Settles O3, by the rule in each group of states. -/
theorem transmitRequest : Obligations.TransmitRequest := by
  refine ⟨fun frame => ⟨encode_of_argument 0x03#8 0#24 rfl rfl rfl, encode_of_argument 0x03#8 1#24 rfl rfl rfl⟩,
    reservedBitsFault_of_row (by simp [commandReadings]), fun c s => rfl,
    fun frame c hf => exec_outside (transmit_wellFormed c hf) rfl, fun frame c s hf hc => ?_⟩
  have hw := transmit_wellFormed c hf
  refine ⟨fun h => ?_, fun hs => ?_, fun hs => ?_, fun h => ?_⟩
  · obtain ⟨rest, n, hdraw⟩ := drawAckRequested_frame s frame
    refine ⟨rest, n, ?_⟩
    rw [exec_inside_of_not_immediate hw rfl hc (congrArg some (transmitRule_starts frame c h))
      (startJob_not_immediate s frame c), State.startJob, hdraw]
    rfl
  · exact exec_inside hw rfl hc (congrArg some (transmitRule_waitingTimeslot frame c hs))
  · exact exec_inside hw rfl hc (congrArg some (transmitRule_refused frame c (.inr (.inl hs))))
  · have hstates : Busy s.state ∨ s.state = .txAck := by rw [busy_iff]; tauto
    exact exec_inside_of_not_immediate hw rfl hc (congrArg some (transmitRule_refused frame c (by tauto)))
      ((not_immediate_iff _).mpr (by tauto))

/-! ## The legality matrix -/

/-- Settles O7: the answer and what a failure writes are `exec_request`; the entries "ok (no write)" are RECEIVE's. -/
theorem requestLegalityMatrix : Obligations.RequestLegalityMatrix := by
  intro i s v hv hw hc
  by_cases hreceiving : i = .receive ∧ alreadyReceiving s = true
  · obtain ⟨rfl, hreceiving⟩ := hreceiving
    have hrule := receiveRule_alreadyReceiving hreceiving
    obtain ⟨-, -, r, hr, hanswer⟩ := commandRule_answers hv
    obtain rfl : (s, respOk) = r := Option.some.inj ((congrArg some hrule).symm.trans hr)
    exact ⟨settled s, hanswer.word ▸ exec_inside hw rfl hc hr, rfl, fun _ => rfl⟩
  · obtain ⟨u, hu, hresponses, hunwritten⟩ := exec_request hv hw hc
    refine ⟨settled u, hu, hresponses, fun h => ?_⟩
    obtain ⟨rest, n, rfl⟩ := hunwritten (h.resolve_right hreceiving)
    rfl

/-! ## Where a radio event has no effect (R109) -/

section
variable {s : State}

theorem rxStartRule_elsewhere (h : s.state ≠ .waitingRxFrame) : rxStartRule s = s := by
  unfold rxStartRule
  cases hs : s.state with
  | waitingRxFrame => exact absurd hs h
  | _ => rfl

theorem rxAddrMatchRule_elsewhere (addressed : Bool) (h : s.state ≠ .rxHeader) : rxAddrMatchRule addressed s = s := by
  unfold rxAddrMatchRule
  cases hs : s.state with
  | rxHeader => exact absurd hs h
  | _ => rfl

theorem rxCompleteRule_elsewhere (ackRequested : Bool) (h : s.state ≠ .rxFrame) : rxCompleteRule ackRequested s = s := by
  unfold rxCompleteRule
  cases hs : s.state with
  | rxFrame => exact absurd hs h
  | _ => rfl

theorem txCompleteRule_elsewhere (h : s.state ≠ .txFrame) (hack : s.state ≠ .txAck) : txCompleteRule s = s := by
  unfold txCompleteRule
  cases hs : s.state with
  | txFrame => exact absurd hs h
  | txAck => exact absurd hs hack
  | _ => rfl

theorem ackReceivedRule_elsewhere (matching : Bool) (h : s.state ≠ .rxAck) : ackReceivedRule matching s = s := by
  unfold ackReceivedRule
  cases hs : s.state with
  | rxAck => exact absurd hs h
  | _ => rfl

theorem ackTimeoutRule_elsewhere (h : s.state ≠ .rxAck) : ackTimeoutRule s = s := by
  unfold ackTimeoutRule
  cases hs : s.state with
  | rxAck => exact absurd hs h
  | _ => rfl

theorem edCompleteRule_elsewhere (energy : BitVec 8) (h : s.state ≠ .energyDetection) : edCompleteRule energy s = s := by
  unfold edCompleteRule
  cases hs : s.state with
  | energyDetection => exact absurd hs h
  | _ => rfl

theorem ccaCompleteRule_elsewhere (busy : Bool) (h : s.state ≠ .ccaBeforeTx) (hprobe : s.state ≠ .cca) :
    ccaCompleteRule busy s = s := by
  unfold ccaCompleteRule
  cases hs : s.state with
  | ccaBeforeTx => exact absurd hs h
  | cca => exact absurd hs hprobe
  | _ => rfl

theorem disabledRule_elsewhere (h : s.state ≠ .disabling) : disabledRule s = s := by
  unfold disabledRule
  cases hs : s.state with
  | disabling => exact absurd hs h
  | _ => rfl

end

/-! ## How a probe and the carrier end -/

/-- The modes of R123 to R125. -/
def ProbeOrCarrier (st : OpState) : Prop := st = .energyDetection ∨ st = .cca ∨ st = .continuousCarrier

theorem ProbeOrCarrier.busy {st : OpState} (h : ProbeOrCarrier st) : Busy st := by
  rcases h with rfl | rfl | rfl <;> exact ⟨rfl, nofun⟩

/-- What an event `j` makes of such a mode: the block stays in it, or a probe ends in the receive-idle states (R123, R124), or
a revoke suspends the carrier (R125). -/
def ModeOutcome (j : Instr) (s t : State) : Prop :=
  t.state = s.state ∨ (s.state ≠ .continuousCarrier ∧ t.state.recvIdle = true) ∨
    (j = .evTsRevoke ∧ t.state = .waitingTimeslot ∧ t.resume = .continuousCarrier)

theorem ModeOutcome.same {j : Instr} {s t : State} (h : t = s) : ModeOutcome j s t := .inl (congrArg State.state h)

/-- The listening path lands in a receive-idle state (R104). -/
theorem enterRxListen_recvIdle (s : State) : s.enterRxListen.state.recvIdle = true := by
  rw [enterRxListen_eq, armed, armedWith]
  dsimp only
  split <;> rfl

/-- A probe that ends in the listening path. -/
theorem ModeOutcome.listens {j : Instr} {s r t : State} (hs : s.state ≠ .continuousCarrier) (ht : t = r.enterRxListen) :
    ModeOutcome j s t :=
  .inr (.inl ⟨hs, ht ▸ enterRxListen_recvIdle r⟩)

theorem edCompleteRule_modeOutcome (energy : BitVec 8) (s : State) :
    ModeOutcome (.evEdComplete energy) s (edCompleteRule energy s) := by
  by_cases hs : s.state = .energyDetection
  · exact .listens (r := s.out (.edDone energy)) (by rw [hs]; nofun) (by simp only [edCompleteRule, hs])
  · exact .same (edCompleteRule_elsewhere energy hs)

theorem ccaCompleteRule_modeOutcome {s : State} (busy : Bool) (hjob : s.state ≠ .ccaBeforeTx) :
    ModeOutcome (.evCcaComplete busy) s (ccaCompleteRule busy s) := by
  by_cases hs : s.state = .cca
  · exact .listens (r := s.out (.ccaDone busy)) (by rw [hs]; nofun) (by simp only [ccaCompleteRule, hs])
  · exact .same (ccaCompleteRule_elsewhere busy hjob hs)

theorem tsRevokeRule_modeOutcome {s : State} (h : ProbeOrCarrier s.state) : ModeOutcome .evTsRevoke s (tsRevokeRule s) := by
  rcases h with hs | hs | hs
  · exact .listens (r := State.out { s with tsGranted := false } .edAborted) (by rw [hs]; nofun)
      (by simp only [tsRevokeRule, hs])
  · exact .listens (r := State.out { s with tsGranted := false } .ccaAborted) (by rw [hs]; nofun)
      (by simp only [tsRevokeRule, hs])
  · have hrule : tsRevokeRule s =
        { s with tsGranted := false, resume := .continuousCarrier, state := .waitingTimeslot } := by
      simp only [tsRevokeRule, hs]
    rw [hrule]
    exact .inr (.inr ⟨rfl, rfl, rfl⟩)

/-- Every event in such a mode: the other radio events belong to other states. -/
theorem performEvent_modeOutcome {i : Instr} {s u : State} (hm : ProbeOrCarrier s.state) (h : performEvent i s = some u) :
    ModeOutcome i s u := by
  have elsewhere : ∀ st, ¬ ProbeOrCarrier st → s.state ≠ st := fun st hst hs => hst (hs ▸ hm)
  cases i with
  | evRxStart => cases h; exact .same (rxStartRule_elsewhere (elsewhere _ nofun))
  | evRxAddrMatch f => cases h; exact .same (rxAddrMatchRule_elsewhere f (elsewhere _ nofun))
  | evRxComplete f => cases h; exact .same (rxCompleteRule_elsewhere f (elsewhere _ nofun))
  | evTxComplete => cases h; exact .same (txCompleteRule_elsewhere (elsewhere _ nofun) (elsewhere _ nofun))
  | evAckReceived f => cases h; exact .same (ackReceivedRule_elsewhere f (elsewhere _ nofun))
  | evAckTimeout => cases h; exact .same (ackTimeoutRule_elsewhere (elsewhere _ nofun))
  | evEdComplete v => cases h; exact edCompleteRule_modeOutcome v s
  | evCcaComplete f => cases h; exact ccaCompleteRule_modeOutcome f (elsewhere _ nofun)
  | evDisabled => cases h; exact .same (disabledRule_elsewhere (elsewhere _ nofun))
  | evTsGrant => cases h; rw [tsGrantRule_not_waiting (elsewhere _ nofun)]; exact .inl rfl
  | evTsRevoke => cases h; exact tsRevokeRule_modeOutcome hm
  | _ => cases h

/-- Every command but IRQ_HANDLER and the RECEIVE that ends a carrier leaves a busy block in its state. -/
theorem commandRule_busy {i : Instr} {s u : State} {w : Word} (hb : Busy s.state) (hirq : i ≠ .irqHandler)
    (hreceive : i = .receive → s.state ≠ .continuousCarrier) (h : commandRule i s = some (u, w)) : u.state = s.state := by
  have rule : ∀ r : State × Word, some r = some (u, w) → r.1 = u := fun r hr => by cases hr; rfl
  cases i with
  | sleep => rw [← rule _ h, sleepRule_refused (.inl hb)]
  | receive => rw [← rule _ h, receiveRule_refused hb (hreceive rfl)]
  | transmit frame c => rw [← rule _ h, transmitRule_refused frame c (.inl hb)]
  | energyDetection | cca | continuousCarrier => rw [← rule _ h, probeRule_fails (probeSourceCheck_busy hb)]
  | notifyBufferFree b =>
    have harmed : ¬ s.idleArmed = true := fun ha => by
      obtain ⟨hs, -⟩ : s.state = .waitingTimeslot ∧ s.pendingRx = true := by simpa [State.idleArmed] using ha
      rw [hs] at hb
      exact absurd hb.1 nofun
    rw [← rule _ h, notifyBufferFreeRule, if_neg harmed]
  | irqHandler => exact absurd rfl hirq
  | currentState | channelUpdate | ccaCfgUpdate | csEnter | csExit | cfgSetChannel | cfgSetCca => rw [← rule _ h]
  | _ => cases h

/-- Every instruction in such a mode but the RECEIVE that ends a carrier: whatever it does to the mode is done by an event, itself
or the one that IRQ_HANDLER performs. -/
theorem exec_modeOutcome {i : Instr} {s t : State} (hm : ProbeOrCarrier s.state)
    (hreceive : i = .receive → s.state ≠ .continuousCarrier) (h : exec i s = .next t) :
    ∃ j, (i = j ∨ i = .irqHandler) ∧ ModeOutcome j s t := by
  rcases exec_next_cases h with ⟨-, c, rfl⟩ | ⟨-, u, w, hr, rfl⟩ | ⟨-, u, hp, rfl⟩
  · exact ⟨i, .inl rfl, .inl rfl⟩
  · by_cases hirq : i = .irqHandler
    · subst hirq
      cases hq : s.evq with
      | nil =>
        cases (commandRule_irqHandler_nil hq).symm.trans hr
        exact ⟨.irqHandler, .inr rfl, .inl rfl⟩
      | cons e rest =>
        rw [commandRule_irqHandler_cons hq] at hr
        obtain ⟨v, hv, hvu⟩ := Option.map_eq_some_iff.mp hr
        cases hvu
        obtain ⟨j, -, hj⟩ := performHead_some hv
        exact ⟨j, .inr rfl, (performEvent_modeOutcome (s := s.dropHead) hm hj :)⟩
    · exact ⟨i, .inl rfl, .inl (commandRule_busy hm.busy hirq hreceive hr :)⟩
  · exact ⟨i, .inl rfl, (performEvent_modeOutcome hm hp :)⟩

/-- R123, R124: a probe ends in the receive-idle states. -/
theorem exec_probe_ends {i : Instr} {s t : State} (hs : s.state = .energyDetection ∨ s.state = .cca)
    (h : exec i s = .next t) : t.state = s.state ∨ t.state.recvIdle = true := by
  have hm : ProbeOrCarrier s.state := by unfold ProbeOrCarrier; tauto
  have hcarrier : s.state ≠ .continuousCarrier := by rcases hs with hs | hs <;> rw [hs] <;> nofun
  obtain ⟨j, -, hstay | ⟨-, hidle⟩ | ⟨-, hwait, -⟩⟩ := exec_modeOutcome hm (fun _ => hcarrier) h
  · exact .inl hstay
  · exact .inr hidle
  · exact .inr (by rw [hwait]; rfl)

/-- Settles O4, by the table that the probes share (`probeTable_of_probeRule`) and `exec_probe_ends`. -/
theorem energyDetectionRequest : Obligations.EnergyDetectionRequest := by
  refine ⟨fun d => encode_of_argument 0x04#8 0#24 rfl rfl rfl, reservedBitsFault_of_row (by simp [commandReadings]),
    fun d => exec_outside rfl rfl, fun d => probeTable_of_probeRule rfl rfl rfl fun s => rfl, fun i s t hs h => ?_⟩
  rw [← hs]
  exact exec_probe_ends (.inl hs) h

/-- Settles O5, as O4. -/
theorem ccaRequest : Obligations.CcaRequest := by
  refine ⟨rfl, reservedBitsFault_of_row (by simp [commandReadings]), exec_outside rfl rfl,
    probeTable_of_probeRule rfl rfl rfl fun s => rfl, fun i s t hs h => ?_⟩
  rw [← hs]
  exact exec_probe_ends (.inr hs) h

/-- Settles O6, by the table that the probes share; what ends the mode is RECEIVE or the revoke of `exec_modeOutcome`. -/
theorem continuousCarrierRequest : Obligations.ContinuousCarrierRequest := by
  refine ⟨rfl, reservedBitsFault_of_row (by simp [commandReadings]), exec_outside rfl rfl,
    probeTable_of_probeRule rfl rfl rfl fun s => rfl, fun i s t hs h hleft => ?_⟩
  by_cases hi : i = .receive
  · exact .inl hi
  · obtain ⟨j, hj, hstay | ⟨hcarrier, -⟩ | ⟨rfl, hwait⟩⟩ := exec_modeOutcome (.inr (.inr hs)) (fun h => absurd h hi) h
    · exact absurd (hstay.trans hs) hleft
    · exact absurd hs hcarrier
    · exact .inr ⟨hj, hwait⟩

end Sys2Proof.Proofs
end

section
/-!
PROOFS. The host services of spec/42_host_services.md (R140 to R148): the query, the buffer notification, the two configuration
updates with their deferral, IRQ_HANDLER, the guard and the configuration writes.
-/

namespace Sys2Proof.Proofs

open Sys2Proof.Machine Sys2Proof.Safety

/-! ## Configuration updates and their deferral -/

/-- After `settle()` nothing waits in a CfgImmediate state (R107). -/
theorem settled_no_update {s : State} (h : s.state.cfgImmediate = true) :
    (settled s).pendingChannel = false ∧ (settled s).pendingCca = false := by
  simp [settled, h]

/-- An instruction that brings the block into CfgImmediate is no fault, so it ends in `settle()` (R101, R102). -/
theorem exec_into_immediate {i : Instr} {s t : State} (h : exec i s = .next t) (hs : s.state.cfgImmediate = false)
    (ht : t.state.cfgImmediate = true) : t.pendingChannel = false ∧ t.pendingCca = false := by
  rcases exec_next_cases h with ⟨-, c, rfl⟩ | ⟨-, u, w, -, rfl⟩ | ⟨-, u, -, rfl⟩
  · exact absurd (hs.symm.trans ht) nofun
  · exact settled_no_update ht
  · exact settled_no_update ht

/-- The same of every step that is no reset: only an instruction moves the block. -/
theorem step_into_immediate {s t : State} (h : step s = .next t) (hreset : ∀ rest, s.turns ≠ .reset :: rest)
    (hs : s.state.cfgImmediate = false) (ht : t.state.cfgImmediate = true) :
    t.pendingChannel = false ∧ t.pendingCca = false := by
  cases step_effect h with
  | idle | faulted | delivered => exact absurd (hs.symm.trans ht) nofun
  | command _ _ _ hx => exact exec_into_immediate hx hs ht
  | dispatched _ _ _ _ hx => exact exec_into_immediate hx hs ht
  | reset hturns => exact absurd hturns (hreset _)

/-- A deferred update over a step: kept outside CfgImmediate, and applied where the step leaves nothing waiting. -/
theorem AppliedWhenIdle.deferred {n : Nat} {idle : Bool} {cfg' hw hw' : BitVec n} {p p' : Bool}
    (h : AppliedWhenIdle idle cfg' hw hw' p p') (hp : p = true) (happlied : idle = true → p' = false) :
    (idle = false → hw' = hw ∧ p' = true) ∧ (idle = true → hw' = cfg' ∧ p' = false) := by
  refine ⟨fun hbusy => ⟨?_, h.kept hbusy hp⟩, fun hidle => ⟨h.cleared hp (happlied hidle), happlied hidle⟩⟩
  by_contra hne
  exact absurd (hbusy.symm.trans (h.changed hne).1) nofun

/-- R142, the deferral. -/
theorem channel_deferredUntilIdle : DeferredUntilIdle State.pendingChannel State.hwChannel State.cfgChannel :=
  fun _ _ hs hp h hreset => (step_config h hreset).channel.deferred hp fun ht => (step_into_immediate h hreset hs ht).1

/-- R143, the deferral. -/
theorem cca_deferredUntilIdle : DeferredUntilIdle State.pendingCca State.hwCca State.cfgCca :=
  fun _ _ hs hp h hreset => (step_config h hreset).cca.deferred hp fun ht => (step_into_immediate h hreset hs ht).2

/-- The effect of CHANNEL_UPDATE: the flag, and `settle()` (R142). -/
theorem exec_channelUpdate {s : State} (hc : s.csHeld = true) :
    exec .channelUpdate s = answers (settled { s with pendingChannel := true }) 0x00000001#32 :=
  exec_inside rfl rfl hc rfl

/-- The effect of CCA_CFG_UPDATE: the flag, and `settle()` (R143). -/
theorem exec_ccaCfgUpdate {s : State} (hc : s.csHeld = true) :
    exec .ccaCfgUpdate s = answers (settled { s with pendingCca := true }) 0x00000001#32 :=
  exec_inside rfl rfl hc rfl

/-- What one channel update has left, a second one leaves as it is: applied, or still deferred (R142). -/
theorem settled_channelUpdate_again (s : State) (w : Word) :
    settled { (settled { s with pendingChannel := true }).respond w with pendingChannel := true } =
      (settled { s with pendingChannel := true }).respond w := by
  cases h : s.state.cfgImmediate <;> simp [settled, State.respond, h]

/-- The same of the CCA configuration (R143). -/
theorem settled_ccaCfgUpdate_again (s : State) (w : Word) :
    settled { (settled { s with pendingCca := true }).respond w with pendingCca := true } =
      (settled { s with pendingCca := true }).respond w := by
  cases h : s.state.cfgImmediate <;> simp [settled, State.respond, h]

/-- Settles O10: the update is its flag and `settle()`, and the deferral is `channel_deferredUntilIdle`. -/
theorem channelUpdate : Obligations.ChannelUpdate := by
  refine ⟨rfl, reservedBitsFault_of_row (by simp [commandReadings]), exec_outside rfl rfl,
    fun s hc => ⟨fun hidle => ?_, fun hbusy => ?_, fun t ht => ?_⟩, channel_deferredUntilIdle⟩
  · have happlied := settled_of_immediate (s := { s with pendingChannel := true }) hidle
    rw [exec_channelUpdate hc, happlied]
    rfl
  · exact exec_inside_of_not_immediate rfl rfl hc rfl hbusy
  · obtain rfl : (settled { s with pendingChannel := true }).respond 0x00000001#32 = t :=
      Host.Outcome.next.inj ((exec_channelUpdate hc).symm.trans ht)
    rw [exec_channelUpdate, settled_channelUpdate_again]
    exact hc

/-- Settles O11, as O10. -/
theorem ccaCfgUpdate : Obligations.CcaCfgUpdate := by
  refine ⟨rfl, reservedBitsFault_of_row (by simp [commandReadings]), exec_outside rfl rfl,
    fun s hc => ⟨fun hidle => ?_, fun hbusy => ?_, fun t ht => ?_⟩, cca_deferredUntilIdle⟩
  · have happlied := settled_of_immediate (s := { s with pendingCca := true }) hidle
    rw [exec_ccaCfgUpdate hc, happlied]
    rfl
  · exact exec_inside_of_not_immediate rfl rfl hc rfl hbusy
  · obtain rfl : (settled { s with pendingCca := true }).respond 0x00000001#32 = t :=
      Host.Outcome.next.inj ((exec_ccaCfgUpdate hc).symm.trans ht)
    rw [exec_ccaCfgUpdate, settled_ccaCfgUpdate_again]
    exact hc

/-! ## NOTIFY_BUFFER_FREE -/

theorem notifyBufferFree_wellFormed {b : Handle} (hb : b ≠ noHandle) : (Instr.notifyBufferFree b).WellFormed := if_neg hb

/-- Idle-armed (R28). -/
theorem idleArmed_iff (s : State) : s.idleArmed = true ↔ s.pendingRx = true ∧ s.state = .waitingTimeslot := by
  simp [State.idleArmed, and_comm]

/-- Settles O9: the rule takes the buffer exactly in an idle-armed block, and either state it goes to is CfgImmediate. -/
theorem notifyBufferFree : Obligations.NotifyBufferFree := by
  refine ⟨fun b => encode_of_argument 0x09#8 0#24 rfl rfl rfl, reservedBitsFault_of_row (by simp [commandReadings]),
    fun s => rfl, fun b hb => exec_outside (notifyBufferFree_wellFormed hb) rfl, fun b s hb hc => ?_⟩
  have hw := notifyBufferFree_wellFormed hb
  rw [← idleArmed_iff]
  constructor
  · intro harmed
    have hidle : (if s.tsGranted = true then OpState.waitingRxFrame else .waitingTimeslot).cfgImmediate = true := by
      split <;> rfl
    rw [← settled_of_immediate hidle]
    exact exec_inside hw rfl hc (congrArg some (if_pos harmed))
  · exact fun hnot => exec_inside hw rfl hc (congrArg some (if_neg hnot))

/-! ## IRQ_HANDLER -/

/-- IRQ_HANDLER where the host owns dispatch, outside the critical section: its rule, `settle()` and the answer (R144). -/
theorem exec_irqHandler {s u : State} (hm : s.params.irqDispatch = .hostCalled) (hc : s.csHeld = false)
    (hr : commandRule .irqHandler s = some (u, respOk)) : exec .irqHandler s = answers (settled u) 0x00000001#32 := by
  have hpass : failedCheck .irqHandler s = none := failedCheck_none rfl nofun nofun nofun fun _ => ⟨hc, hm⟩
  rw [exec_eq_checkedCommand rfl, checkedCommand_passed hpass hr]
  exact finish_eq u respOk

/-- A word with the opcode of IRQ_HANDLER is illegal to a block that dispatches by itself (R78). -/
theorem hostStep_irqHandler_autonomous {w a : Word} {s : State} (hf : s.fault = 0#8) (ho : opcodeOf w = 0x0C#8)
    (hm : s.params.irqDispatch = .autonomous) : hostStep w a s = faults s 0x01#8 :=
  commandDecoderExact.2 w a s hf fun _ hd => absurd (hm.symm.trans ((decodeCmd_ok hd).2 ho)) nofun

/-- Settles O12: the event at the head has a rule, which the dispatch of that event and IRQ_HANDLER both perform. -/
theorem irqHandlerDispatchesOneEvent : Obligations.IrqHandlerDispatchesOneEvent := by
  refine ⟨rfl, fun w a s hf ho h => ?_, fun s hm => if_pos hm, fun s hm hc => ?_, fun s hm hc =>
    ⟨fun hq => ?_, fun e rest i hq hd => ?_⟩⟩
  · rcases h with hreserved | hm
    · have hrow : ReservedBitsFault 0x0C#8 0 := reservedBitsFault_of_row (by simp [commandReadings])
      exact hrow w a s hf ho hreserved
    · exact hostStep_irqHandler_autonomous hf ho hm
  · have hfails : failedCheck .irqHandler s = some .dispatchInCs := by
      simp [failedCheck, Instr.illFormed, needsCriticalSection, hm, hc]
    exact (exec_eq_checkedCommand rfl s).trans (checkedCommand_failed hfails)
  · exact exec_irqHandler hm hc (commandRule_irqHandler_nil hq)
  · obtain ⟨u, hu, hx⟩ := exec_event_next (decodeEv_isEvent hd) { s with evq := rest }
    have hhead : performHead e s = some u := by
      rw [performHead, hd, State.dropHead, hq, List.tail_cons]
      exact hu
    have hr : commandRule .irqHandler s = some (u, respOk) := by
      rw [commandRule_irqHandler_cons hq, hhead, Option.map_some]
    exact ⟨settled u, settle_eq u ▸ hx, exec_irqHandler hm hc hr⟩

/-! ## CURRENT_STATE -/

/-- The codes 13 to 15 are no state's (R22). -/
theorem code_lt (st : OpState) : st.code.toNat < 13 := by cases st <;> decide

/-- `settle()` writes nothing in a state that meets R47. -/
theorem settled_of_no_update_due {s : State}
    (h : s.state.cfgImmediate = true → s.pendingChannel = false ∧ s.pendingCca = false) : settled s = s := by
  cases hidle : s.state.cfgImmediate with
  | false => exact settled_of_not_immediate hidle
  | true =>
    obtain ⟨hchannel, hcca⟩ := h hidle
    exact settled_of_no_update hchannel hcca

/-- Settles O8; the answer is the word of `responseWord_code`. -/
theorem currentStateQuery : Obligations.CurrentStateQuery := by
  refine ⟨rfl, reservedBitsFault_of_row (by simp [commandReadings]), exec_outside rfl rfl, fun s hc => ?_,
    fun s => settled_of_no_update_due, fun s => code_lt s.state⟩
  rw [← responseWord_code]
  exact exec_inside rfl rfl hc rfl

/-! ## The guard -/

/-- No dispatch step is enabled inside the critical section (R101). -/
theorem dispatchEnabled_of_csHeld {s : State} (hc : s.csHeld = true) : s.dispatchEnabled = false := by
  rw [← Bool.not_eq_true, dispatchEnabled_iff]
  rintro ⟨-, hfree, -⟩
  exact absurd (hfree.symm.trans hc) nofun

/-- A delivery that is enabled and finds room puts its word at the tail of the queue (R210). -/
theorem deliveryStep_appends {s : State} {e : Word} (hf : s.fault = 0#8) (he : isEventWord e = true)
    (hq : s.queueFull = false) : deliveryStep e s = .next { s with evq := s.evq ++ [e] } := by
  rw [deliveryStep, if_pos hf]
  rcases deliver_cases s e with ⟨hno, -⟩ | ⟨-, hfull, -⟩ | ⟨-, -, hd⟩
  · exact absurd (hno.symm.trans he) nofun
  · exact absurd (hq.symm.trans hfull) nofun
  · rw [hd, State.enqueue]

/-- Settles O13: the guard and the rule of CS_ENTER; a delivery does not read `cs_held`. -/
theorem csEnterGuard : Obligations.CsEnterGuard := by
  refine ⟨rfl, reservedBitsFault_of_row (by simp [commandReadings]), fun s hc => if_pos hc, fun s hc => ?_,
    fun s => dispatchEnabled_of_csHeld, fun s e _ => deliveryStep_appends⟩
  rw [exec, execCsEnter, if_neg (by rw [hc]; nofun), finish_eq]
  rfl

/-- CS_EXIT inside the critical section (R146). -/
theorem exec_csExit {s : State} (hc : s.csHeld = true) :
    exec .csExit s = answers (settled { s with csHeld := false }) 0x00000001#32 := by
  rw [exec, execCsExit, if_pos hc, finish_eq]
  rfl

/-- Settles O14: after `exec_csExit` nothing but an empty queue keeps dispatch from being enabled (`dispatchEnabled_iff`). -/
theorem csExitGuard : Obligations.CsExitGuard := by
  refine ⟨rfl, reservedBitsFault_of_row (by simp [commandReadings]), fun s hc => if_neg (by rw [hc]; nofun),
    fun s => exec_csExit, fun s t hc hf hm h => ?_⟩
  cases (exec_csExit hc).symm.trans h
  refine ⟨rfl, (dispatchEnabled_iff _).trans ?_⟩
  exact ⟨fun ⟨_, _, hq, _⟩ => hq, fun hq => ⟨hf, rfl, hq, hm⟩⟩

/-! ## The configuration writes -/

/-- Settles O15. -/
theorem cfgSetChannelWritesConfiguration : Obligations.CfgSetChannelWritesConfiguration := by
  refine ⟨fun ch => ?_, reservedBitsFault_of_row (by simp [commandReadings]), fun ch s => finish_eq _ _⟩
  exact congrArg (fun word => [word]) (append_setWidth_eq_or 0x10#8 ch (by decide))

/-- Settles O16. -/
theorem cfgSetCcaWritesConfiguration : Obligations.CfgSetCcaWritesConfiguration := by
  refine ⟨fun cfg => ?_, reservedBitsFault_of_row (by simp [commandReadings]), fun cfg s => finish_eq _ _⟩
  exact congrArg (fun word => [word]) (append_setWidth_eq_or 0x11#8 cfg (by decide))

end Sys2Proof.Proofs
end

section
/-!
PROOFS. The radio events of spec/43_radio_events.md: what each rule does in the states it names (R160 to R168), how the dispatch of
an event ends, and the event matrix from the nine rules (R169).
-/

namespace Sys2Proof.Proofs

open Sys2Proof.Machine Sys2Proof.Safety

/-! ## What a radio event does where it has an effect -/

section
variable {s : State}

theorem rxStartRule_waitingRxFrame (hs : s.state = .waitingRxFrame) : rxStartRule s = { s with state := .rxHeader } := by
  simp only [rxStartRule, hs]

theorem rxAddrMatchRule_rxHeader (addressed : Bool) (hs : s.state = .rxHeader) :
    rxAddrMatchRule addressed s = { s with state := if addressed then .rxFrame else .waitingRxFrame } := by
  simp only [rxAddrMatchRule, hs, dropReception_eq]
  cases addressed <;> rfl

theorem rxCompleteRule_rxFrame (ackRequested : Bool) (hs : s.state = .rxFrame) :
    rxCompleteRule ackRequested s =
      if ackRequested then { s.out (.rxDone s.rxBuffer) with rxBuffer := noHandle, state := .txAck }
      else State.enterRxListen { s.out (.rxDone s.rxBuffer) with rxBuffer := noHandle } := by
  simp only [rxCompleteRule, hs]

theorem txCompleteRule_txFrame (hs : s.state = .txFrame) :
    txCompleteRule s = if s.jobAckReq then { s with state := .rxAck } else s.completeJob .success := by
  simp only [txCompleteRule, hs]

theorem txCompleteRule_txAck (hs : s.state = .txAck) : txCompleteRule s = s.enterRxListen := by
  simp only [txCompleteRule, hs]

theorem ackReceivedRule_rxAck (matching : Bool) (hs : s.state = .rxAck) :
    ackReceivedRule matching s = if matching then s.completeJob .success else s := by
  simp only [ackReceivedRule, hs]

theorem ackTimeoutRule_rxAck (hs : s.state = .rxAck) : ackTimeoutRule s = s.completeJob .noAck := by
  simp only [ackTimeoutRule, hs]

theorem edCompleteRule_energyDetection (energy : BitVec 8) (hs : s.state = .energyDetection) :
    edCompleteRule energy s = (s.out (.edDone energy)).enterRxListen := by
  simp only [edCompleteRule, hs]

theorem ccaCompleteRule_ccaBeforeTx (busy : Bool) (hs : s.state = .ccaBeforeTx) :
    ccaCompleteRule busy s = if busy then s.completeJob .channelBusy else { s with state := .txFrame } := by
  simp only [ccaCompleteRule, hs]

theorem ccaCompleteRule_cca (busy : Bool) (hs : s.state = .cca) :
    ccaCompleteRule busy s = (s.out (.ccaDone busy)).enterRxListen := by
  simp only [ccaCompleteRule, hs]

end

/-! ## How the dispatch of an event ends -/

section
variable {i : Instr} {s u : State}

/-- An event's rule, and `settle()` (R101). -/
theorem exec_event (h : performEvent i s = some u) : exec i s = .next (settled u) := by
  rw [exec_of_performEvent h, settle_eq]

/-- A rule that ends outside CfgImmediate has nothing applied (R107). -/
theorem exec_event_of_not_immediate (h : performEvent i s = some u) (hu : u.state.cfgImmediate = false) :
    exec i s = .next u := by
  rw [exec_event h, settled_of_not_immediate hu]

/-- A rule that ends in a CfgImmediate state has the deferred updates applied (R107). -/
theorem exec_event_of_immediate (h : performEvent i s = some u) (hu : u.state.cfgImmediate = true) :
    exec i s = .next (applied u) := by
  rw [exec_event h, settled_of_immediate hu]

/-- A rule that ends in the listening path (R104). -/
theorem exec_event_listens (h : performEvent i s = some u.enterRxListen) : exec i s = .next (listening u) := by
  rw [exec_of_performEvent h, settle_enterRxListen]

/-- A rule that ends the job (R106). -/
theorem exec_event_ends {o : TxOutcome} (h : performEvent i s = some (u.completeJob o)) :
    exec i s = .next (jobEnded o u) := by
  rw [exec_of_performEvent h, settle_completeJob]

end

/-! ## The events of a reception -/

/-- Settles O17, by the rule in WaitingRxFrame and elsewhere. -/
theorem rxStartEvent : Obligations.RxStartEvent :=
  ⟨rfl,
    fun _ hs => exec_event_of_not_immediate (congrArg some (rxStartRule_waitingRxFrame hs)) rfl,
    fun _ hs => exec_event (congrArg some (rxStartRule_elsewhere hs))⟩

/-- Settles O18: a dropped frame leads back to WaitingRxFrame, which is CfgImmediate. -/
theorem rxAddrMatchEvent : Obligations.RxAddrMatchEvent :=
  ⟨rfl, rfl,
    fun _ hs => exec_event_of_not_immediate (congrArg some (rxAddrMatchRule_rxHeader true hs)) rfl,
    fun _ hs => exec_event_of_immediate (congrArg some (rxAddrMatchRule_rxHeader false hs)) rfl,
    fun _ f hs => exec_event (congrArg some (rxAddrMatchRule_elsewhere f hs))⟩

/-- Settles O19: TxAck is not CfgImmediate, and the listening path settles into `listening` (R104). -/
theorem rxCompleteEvent : Obligations.RxCompleteEvent :=
  ⟨rfl, rfl,
    fun _ hs => exec_event_of_not_immediate (congrArg some (rxCompleteRule_rxFrame true hs)) rfl,
    fun _ hs => exec_event_listens (congrArg some (rxCompleteRule_rxFrame false hs)),
    fun _ f hs => exec_event (congrArg some (rxCompleteRule_elsewhere f hs))⟩

/-! ## The events of a transmission -/

/-- Settles O20, by the job's `ack_req` in TxFrame. -/
theorem txCompleteEvent : Obligations.TxCompleteEvent := by
  refine ⟨rfl, fun s hs hack => ?_, fun s hs hack => ?_, fun s hs => ?_, fun s hs hack => ?_⟩
  · have hrule := txCompleteRule_txFrame hs
    rw [if_pos hack] at hrule
    exact exec_event_of_not_immediate (congrArg some hrule) rfl
  · have hrule := txCompleteRule_txFrame hs
    rw [if_neg (by simp [hack])] at hrule
    exact exec_event_ends (congrArg some hrule)
  · exact exec_event_listens (congrArg some (txCompleteRule_txAck hs))
  · exact exec_event (congrArg some (txCompleteRule_elsewhere hs hack))

/-- Settles O21: RxAck is not CfgImmediate, so an ACK that does not match changes nothing at all. -/
theorem ackReceivedEvent : Obligations.AckReceivedEvent :=
  ⟨rfl, rfl,
    fun _ hs => exec_event_ends (congrArg some (ackReceivedRule_rxAck true hs)),
    fun _ hs => exec_event_of_not_immediate (congrArg some (ackReceivedRule_rxAck false hs)) (by rw [hs]; rfl),
    fun _ f hs => exec_event (congrArg some (ackReceivedRule_elsewhere f hs))⟩

/-- The listening path leaves nothing for a later `settle()` (R107). -/
theorem settled_listening (s : State) : settled (listening s) = listening s := settled_of_no_update rfl rfl

/-- A job that has ended leaves the block in a receive-idle state (R104, R106). -/
theorem jobEnded_state_ne_rxAck (o : TxOutcome) (s : State) : (jobEnded o s).state ≠ .rxAck := by
  intro hs
  have hidle := enterRxListen_recvIdle { s with outLog := s.outLog ++ [.txDone o s.jobFrame], job := none }
  rw [enterRxListen_eq, show (armed _).state = .rxAck from hs] at hidle
  cases hidle

/-- Settles O22. Whichever of the timeout and the ACK comes first ends the job, and then the block is no longer in RxAck. -/
theorem ackTimeoutEvent : Obligations.AckTimeoutEvent := by
  have hends : ∀ s : State, s.state = .rxAck → exec .evAckTimeout s = .next (jobEnded .noAck s) := fun s hs =>
    exec_event_ends (congrArg some (ackTimeoutRule_rxAck hs))
  have helsewhere : ∀ s : State, s.state ≠ .rxAck → exec .evAckTimeout s = .next (settled s) := fun s hs =>
    exec_event (congrArg some (ackTimeoutRule_elsewhere hs))
  obtain ⟨-, -, hmatch, -, hnoMatch⟩ := ackReceivedEvent
  refine ⟨rfl, hends, helsewhere, fun s hs => ⟨jobEnded .noAck s, jobEnded .success s, hends s hs, ?_, hmatch s hs, ?_⟩⟩
  · rw [hnoMatch _ true (jobEnded_state_ne_rxAck .noAck s), jobEnded, settled_listening]
  · rw [helsewhere _ (jobEnded_state_ne_rxAck .success s), jobEnded, settled_listening]

/-! ## The ends of the probes -/

/-- Settles O23: the energy is the word's payload, and goes out unchanged before the listening path. -/
theorem edCompleteEvent : Obligations.EdCompleteEvent :=
  ⟨fun v => congrArg (fun word => [word]) (append_setWidth_eq_or 0x46#8 v (by decide)),
    fun v _ hs => exec_event_listens (congrArg some (edCompleteRule_energyDetection v hs)),
    fun v _ hs => exec_event (congrArg some (edCompleteRule_elsewhere v hs))⟩

/-- Settles O24, by the result of the job's CCA, and of the probe. -/
theorem ccaCompleteEvent : Obligations.CcaCompleteEvent :=
  ⟨rfl, rfl,
    fun _ hs => exec_event_ends (congrArg some (ccaCompleteRule_ccaBeforeTx true hs)),
    fun _ hs => exec_event_of_not_immediate (congrArg some (ccaCompleteRule_ccaBeforeTx false hs)) rfl,
    fun _ b hs => exec_event_listens (congrArg some (ccaCompleteRule_cca b hs)),
    fun _ b hjob hprobe => exec_event (congrArg some (ccaCompleteRule_elsewhere b hjob hprobe))⟩

/-! ## The end of the power-down -/

/-- In Disabling, TxFamily and a probe, every transition request is refused before it draws or writes anything (R126). -/
theorem commandRule_refused {i : Instr} {s : State} {v : Verdict} (hb : Busy s.state)
    (hcarrier : s.state ≠ .continuousCarrier) (h : legality i s = some v) :
    commandRule i s = some (s, respFail .illegalState) := by
  cases i with
  | sleep => exact congrArg some (sleepRule_refused (.inl hb))
  | receive => exact congrArg some (receiveRule_refused hb hcarrier)
  | transmit frame c => exact congrArg some (transmitRule_refused frame c (.inl hb))
  | energyDetection | cca | continuousCarrier => exact congrArg some (probeRule_fails (probeSourceCheck_busy hb))
  | _ => cases h

/-- Settles O25: Sleep is CfgImmediate, so the deferred updates are applied; the requests are refused by `commandRule_refused`. -/
theorem disabledEvent : Obligations.DisabledEvent := by
  refine ⟨rfl, fun s hs => exec_event_of_immediate (congrArg some (disabledRule_disabling hs)) rfl,
    fun s hs => exec_event (congrArg some (disabledRule_elsewhere hs)), fun i s v hs hv hw hc => ?_⟩
  have hbusy : Busy s.state := (busy_iff s.state).mpr (.inl hs)
  obtain ⟨-, hn, -⟩ := commandRule_answers hv
  exact exec_inside_of_not_immediate hw hn hc (commandRule_refused hbusy (by rw [hs]; nofun) hv) hbusy.not_immediate

/-! ## The event matrix -/

/-- What an entry of the matrix of R169 says about the step `x` from `s`. -/
def EntryHolds (s : State) (x : StepOut) : EventEntry → Prop
  | .dash => x = .next (settled s)
  | .goes st outs => ∃ t, x = .next t ∧ t.state = st ∧ t.outLog = s.outLog ++ outs ∧ t.job = s.job
  | .listens outs => ∃ t, x = .next t ∧ t.outLog = s.outLog ++ outs ∧
      t.state = (if t.rxBuffer ≠ noHandle ∧ s.tsGranted = true then .waitingRxFrame else .waitingTimeslot) ∧
      t.pendingRx = (t.rxBuffer == noHandle) ∧ t.resume = .receive ∧
      t.job = (if s.state.txFamily = true then none else s.job)

/-- The event does in `s` what its entry of the matrix says (R169). -/
def MatchesEntry (i : Instr) (s : State) : Prop :=
  EntryHolds s (exec i s) (eventEntry s.state i s.jobAckReq s.jobFrame s.rxBuffer)

section
variable {s : State} {x : StepOut}

/-- A move without a record. -/
theorem EntryHolds.moves {t : State} (hx : x = .next t) (hlog : t.outLog = s.outLog) (hjob : t.job = s.job) :
    EntryHolds s x (.goes t.state []) :=
  ⟨t, hx, rfl, by rw [hlog, List.append_nil], hjob⟩

/-- Where the listening path lands, and what it leaves of the log and the job (R104). -/
theorem listening_lands (r : State) : (listening r).outLog = r.outLog ∧ (listening r).job = r.job ∧
    (listening r).state =
      (if (listening r).rxBuffer ≠ noHandle ∧ r.tsGranted = true then .waitingRxFrame else .waitingTimeslot) ∧
    (listening r).pendingRx = ((listening r).rxBuffer == noHandle) ∧ (listening r).resume = .receive := by
  obtain ⟨rest, n, hdraw⟩ := bufferFor_frame r
  rw [listening, armed, hdraw]
  exact ⟨rfl, rfl, rfl, rfl, rfl⟩

/-- The listening path from a state `r` that differs from `s` in the records put out, and in the job where it is over. -/
theorem EntryHolds.listens {r : State} {outs : List OutRec} (hx : x = .next (listening r))
    (hgranted : r.tsGranted = s.tsGranted) (hlog : r.outLog = s.outLog ++ outs)
    (hjob : r.job = if s.state.txFamily = true then none else s.job) : EntryHolds s x (.listens outs) := by
  obtain ⟨hlog', hjob', hstate, hpending, hresume⟩ := listening_lands r
  exact ⟨listening r, hx, hlog'.trans hlog, hgranted ▸ hstate, hpending, hresume, hjob'.trans hjob⟩

/-- The end of the job (R106). -/
theorem EntryHolds.ends {o : TxOutcome} (hx : x = .next (jobEnded o s)) (hs : s.state.txFamily = true) :
    EntryHolds s x (.listens [.txDone o s.jobFrame]) :=
  .listens hx rfl rfl (if_pos hs).symm

end

theorem rxStart_matchesEntry (s : State) : MatchesEntry .evRxStart s := by
  obtain ⟨-, hstart, helsewhere⟩ := rxStartEvent
  unfold MatchesEntry
  cases hs : s.state with
  | waitingRxFrame => exact .moves (hstart s hs) rfl rfl
  | _ => exact helsewhere s (by rw [hs]; nofun)

theorem rxAddrMatch_matchesEntry (addressed : Bool) (s : State) : MatchesEntry (.evRxAddrMatch addressed) s := by
  obtain ⟨-, -, hmatch, hdrop, helsewhere⟩ := rxAddrMatchEvent
  unfold MatchesEntry
  cases hs : s.state with
  | rxHeader =>
    cases addressed with
    | true => exact .moves (hmatch s hs) rfl rfl
    | false => exact .moves (hdrop s hs) rfl rfl
  | _ => exact helsewhere s addressed (by rw [hs]; nofun)

theorem rxComplete_matchesEntry (ackRequested : Bool) (s : State) : MatchesEntry (.evRxComplete ackRequested) s := by
  obtain ⟨-, -, hack, hlisten, helsewhere⟩ := rxCompleteEvent
  unfold MatchesEntry
  cases hs : s.state with
  | rxFrame =>
    cases ackRequested with
    | true => exact ⟨_, hack s hs, rfl, rfl, rfl⟩
    | false => exact .listens (hlisten s hs) rfl rfl (by rw [hs]; rfl)
  | _ => exact helsewhere s ackRequested (by rw [hs]; nofun)

theorem txComplete_matchesEntry (s : State) : MatchesEntry .evTxComplete s := by
  obtain ⟨-, hwait, hend, hlisten, helsewhere⟩ := txCompleteEvent
  unfold MatchesEntry
  cases hs : s.state with
  | txFrame =>
    cases hack : s.jobAckReq with
    | true => exact .moves (hwait s hs hack) rfl rfl
    | false => exact .ends (hend s hs hack) (by rw [hs]; rfl)
  | txAck => exact .listens (hlisten s hs) rfl (List.append_nil _).symm (by rw [hs]; rfl)
  | _ => exact helsewhere s (by rw [hs]; nofun) (by rw [hs]; nofun)

theorem ackReceived_matchesEntry (matching : Bool) (s : State) : MatchesEntry (.evAckReceived matching) s := by
  obtain ⟨-, -, hmatch, -, helsewhere⟩ := ackReceivedEvent
  unfold MatchesEntry
  cases hs : s.state with
  | rxAck =>
    cases matching with
    | true => exact .ends (hmatch s hs) (by rw [hs]; rfl)
    | false => exact exec_event (congrArg some (ackReceivedRule_rxAck false hs))
  | _ => exact helsewhere s matching (by rw [hs]; nofun)

theorem ackTimeout_matchesEntry (s : State) : MatchesEntry .evAckTimeout s := by
  obtain ⟨-, hend, helsewhere, -⟩ := ackTimeoutEvent
  unfold MatchesEntry
  cases hs : s.state with
  | rxAck => exact .ends (hend s hs) (by rw [hs]; rfl)
  | _ => exact helsewhere s (by rw [hs]; nofun)

theorem edComplete_matchesEntry (energy : BitVec 8) (s : State) : MatchesEntry (.evEdComplete energy) s := by
  obtain ⟨-, hdone, helsewhere⟩ := edCompleteEvent
  unfold MatchesEntry
  cases hs : s.state with
  | energyDetection => exact .listens (hdone energy s hs) rfl rfl (by rw [hs]; rfl)
  | _ => exact helsewhere energy s (by rw [hs]; nofun)

theorem ccaComplete_matchesEntry (busy : Bool) (s : State) : MatchesEntry (.evCcaComplete busy) s := by
  obtain ⟨-, -, hbusy, hclear, hprobe, helsewhere⟩ := ccaCompleteEvent
  unfold MatchesEntry
  cases hs : s.state with
  | ccaBeforeTx =>
    cases busy with
    | true => exact .ends (hbusy s hs) (by rw [hs]; rfl)
    | false => exact .moves (hclear s hs) rfl rfl
  | cca => exact .listens (hprobe s busy hs) rfl rfl (by rw [hs]; rfl)
  | _ => exact helsewhere s busy (by rw [hs]; nofun) (by rw [hs]; nofun)

theorem disabled_matchesEntry (s : State) : MatchesEntry .evDisabled s := by
  obtain ⟨-, hsleep, helsewhere, -⟩ := disabledEvent
  unfold MatchesEntry
  cases hs : s.state with
  | disabling => exact .moves (hsleep s hs) rfl rfl
  | _ => exact helsewhere s (by rw [hs]; nofun)

/-- R169: the matrix adds nothing to the nine rules, so each event's entries come from its own statement. -/
theorem radioEvent_matchesEntry {i : Instr} (h : isRadioEvent i = true) (s : State) : MatchesEntry i s := by
  cases i with
  | evRxStart => exact rxStart_matchesEntry s
  | evRxAddrMatch addressed => exact rxAddrMatch_matchesEntry addressed s
  | evRxComplete ackRequested => exact rxComplete_matchesEntry ackRequested s
  | evTxComplete => exact txComplete_matchesEntry s
  | evAckReceived matching => exact ackReceived_matchesEntry matching s
  | evAckTimeout => exact ackTimeout_matchesEntry s
  | evEdComplete energy => exact edComplete_matchesEntry energy s
  | evCcaComplete busy => exact ccaComplete_matchesEntry busy s
  | evDisabled => exact disabled_matchesEntry s
  | _ => cases h

/-- Settles O26, by `radioEvent_matchesEntry`. -/
theorem radioEventMatrix : Obligations.RadioEventMatrix := by
  intro i s h
  have hentry := radioEvent_matchesEntry h s
  unfold MatchesEntry at hentry
  generalize eventEntry s.state i s.jobAckReq s.jobFrame s.rxBuffer = entry at hentry ⊢
  cases entry with
  | dash | goes | listens => exact hentry

end Sys2Proof.Proofs
end

section
/-!
PROOFS. The arbiter events of spec/44_arbiter_events.md: what a revoke does in each group of states (R181), where the listening path
lands after a grant and after a revoke (R104), the carrier that a grant resumes, and the `need` output (R182).
-/

namespace Sys2Proof.Proofs

open Sys2Proof.Machine Sys2Proof.Safety

/-! ## The need output -/

/-- Settles O29, by the three levels of the table of R182; reset leads to Sleep (R41). -/
theorem needOutput : Obligations.NeedOutput := by
  refine ⟨fun s => ?_, fun s => rfl⟩
  unfold State.need
  cases s.state with
  | disabling | sleep => rfl
  | waitingTimeslot | waitingRxFrame | rxHeader | rxFrame | energyDetection | cca => rfl
  | txAck | ccaBeforeTx | txFrame | rxAck | continuousCarrier => rfl

/-! ## What a revoke does where a procedure runs -/

section
variable {s : State}

theorem tsRevokeRule_receiving
    (h : s.state = .waitingRxFrame ∨ s.state = .rxHeader ∨ s.state = .rxFrame ∨ s.state = .txAck) :
    tsRevokeRule s = State.enterRxListen { s with tsGranted := false } := by
  rcases h with hs | hs | hs | hs <;> simp only [tsRevokeRule, hs, dropIfReceiving_eq]

theorem tsRevokeRule_transmitting (h : s.state.txFamily = true) :
    tsRevokeRule s = State.completeJob { s with tsGranted := false } .aborted := by
  cases hs : s.state with
  | ccaBeforeTx | txFrame | rxAck => simp only [tsRevokeRule, hs]
  | _ => rw [hs] at h; cases h

theorem tsRevokeRule_energyDetection (hs : s.state = .energyDetection) :
    tsRevokeRule s = (State.out { s with tsGranted := false } .edAborted).enterRxListen := by
  simp only [tsRevokeRule, hs]

theorem tsRevokeRule_cca (hs : s.state = .cca) :
    tsRevokeRule s = (State.out { s with tsGranted := false } .ccaAborted).enterRxListen := by
  simp only [tsRevokeRule, hs]

theorem tsRevokeRule_continuousCarrier (hs : s.state = .continuousCarrier) :
    tsRevokeRule s = { s with tsGranted := false, resume := .continuousCarrier, state := .waitingTimeslot } := by
  simp only [tsRevokeRule, hs]

end

/-- The Active states (R24), as the table of R181 groups them. -/
theorem active_iff (st : OpState) :
    st.active = true ↔ (st = .waitingRxFrame ∨ st = .rxHeader ∨ st = .rxFrame ∨ st = .txAck) ∨ st.txFamily = true ∨
      st = .energyDetection ∨ st = .cca ∨ st = .continuousCarrier := by
  cases st <;> simp [OpState.active, OpState.txFamily]

/-! ## Where the listening path lands -/

/-- Without the timeslot the listening path waits for it, whatever the pool answers (R104). -/
theorem listening_without_timeslot {r : State} (h : r.tsGranted = false) : (listening r).state = .waitingTimeslot := by
  obtain ⟨-, -, hstate, -⟩ := listening_lands r
  rw [hstate, h]
  exact if_neg fun hgranted => nomatch hgranted.2

/-- With a buffer held and the timeslot the listening path draws nothing and listens (R104). -/
theorem listening_with_buffer {r : State} (hb : r.rxBuffer ≠ noHandle) (hg : r.tsGranted = true)
    (hr : r.resume = .receive) (hp : r.pendingRx = false) :
    listening r = applied { r with state := .waitingRxFrame } := by
  have hheld : bufferFor r = (r.rxBuffer, r) := if_pos hb
  have hnone : (r.rxBuffer == noHandle) = false := beq_false_of_ne hb
  rw [listening, armed, hheld, armedWith, if_pos ⟨hb, hg⟩, hnone, ← hr, ← hp]

/-! ## EV_TS_GRANT and EV_TS_REVOKE -/

/-- Settles O27, by the branches of the rule in WaitingTimeslot; a held buffer makes the listening path one without a draw
(`listening_with_buffer`). -/
theorem timeslotGrantEvent : Obligations.TimeslotGrantEvent := by
  have hlistens : ∀ s : State, s.state = .waitingTimeslot → s.resume = .receive → s.pendingRx = false →
      exec .evTsGrant s = .next (listening { s with tsGranted := true }) := by
    intro s hs hr hp
    have hrule := tsGrantRule_waiting hs
    rw [if_neg (by rw [hr]; nofun), if_neg (by rw [hp]; nofun)] at hrule
    exact exec_event_listens (congrArg some hrule)
  refine ⟨rfl, fun s hs hr => ?_, hlistens, fun s hs hr hp hb => ?_, fun s hs hr hp => ?_, fun s hs => ?_⟩
  · have hrule := tsGrantRule_waiting hs
    rw [if_pos hr] at hrule
    exact exec_event_of_not_immediate (congrArg some hrule) rfl
  · rw [hlistens s hs hr hp]
    exact congrArg _ (listening_with_buffer hb rfl hr hp)
  · have hrule := tsGrantRule_waiting hs
    rw [if_neg (by rw [hr]; nofun), if_pos hp] at hrule
    exact exec_event (congrArg some hrule)
  · exact exec_event (congrArg some (tsGrantRule_not_waiting hs))

/-- Settles O28, by the rule in each group of states. `ts_granted` is 0 before the listening path is taken, so every Active state
but the carrier, which is suspended, lands in WaitingTimeslot by `listening_without_timeslot`. -/
theorem timeslotRevokeEvent : Obligations.TimeslotRevokeEvent := by
  have hreceiving : ∀ s : State,
      (s.state = .waitingRxFrame ∨ s.state = .rxHeader ∨ s.state = .rxFrame ∨ s.state = .txAck) →
      exec .evTsRevoke s = .next (listening { s with tsGranted := false }) := fun s h =>
    exec_event_listens (congrArg some (tsRevokeRule_receiving h))
  have htransmitting : ∀ s : State, s.state.txFamily = true →
      exec .evTsRevoke s = .next (jobEnded .aborted { s with tsGranted := false }) := fun s h =>
    exec_event_ends (congrArg some (tsRevokeRule_transmitting h))
  have hmeasuring : ∀ s : State, s.state = .energyDetection →
      exec .evTsRevoke s = .next (listening { s with tsGranted := false, outLog := s.outLog ++ [.edAborted] }) :=
    fun s hs => exec_event_listens (congrArg some (tsRevokeRule_energyDetection hs))
  have hassessing : ∀ s : State, s.state = .cca →
      exec .evTsRevoke s = .next (listening { s with tsGranted := false, outLog := s.outLog ++ [.ccaAborted] }) :=
    fun s hs => exec_event_listens (congrArg some (tsRevokeRule_cca hs))
  have hcarrier : ∀ s : State, s.state = .continuousCarrier → exec .evTsRevoke s =
      .next (applied { s with tsGranted := false, resume := .continuousCarrier, state := .waitingTimeslot }) :=
    fun s hs => exec_event_of_immediate (congrArg some (tsRevokeRule_continuousCarrier hs)) rfl
  refine ⟨rfl, fun s hs => exec_event_of_immediate (congrArg some (tsRevokeRule_disabling hs)) rfl,
    fun s hs => exec_event (congrArg some (tsRevokeRule_stays hs)), hreceiving, htransmitting, hmeasuring, hassessing,
    hcarrier, fun s t hactive hx => ?_⟩
  rcases (active_iff s.state).mp hactive with h | h | h | h | h
  · cases (hreceiving s h).symm.trans hx
    exact listening_without_timeslot rfl
  · cases (htransmitting s h).symm.trans hx
    exact listening_without_timeslot rfl
  · cases (hmeasuring s h).symm.trans hx
    exact listening_without_timeslot rfl
  · cases (hassessing s h).symm.trans hx
    exact listening_without_timeslot rfl
  · cases (hcarrier s h).symm.trans hx
    rfl

/-- Settles O59, by the carrier's clauses of O28 and O27: the suspended carrier is a state that the grant resumes. -/
theorem carrierResumesAfterRevoke : Obligations.CarrierResumesAfterRevoke := by
  obtain ⟨-, hresumes, -⟩ := timeslotGrantEvent
  obtain ⟨-, -, -, -, -, -, -, hsuspends, -⟩ := timeslotRevokeEvent
  exact fun s hs _ => ⟨_, _, hsuspends s hs, rfl, rfl, hresumes _ rfl rfl, rfl, rfl, rfl, rfl, rfl⟩

end Sys2Proof.Proofs
end

section
/-!
PROOFS. Faults (spec/60_exceptions.md R200 to R202), delivery (R210), and the queue that the dispatcher empties (R211, R252).
-/

namespace Sys2Proof.Proofs

open Sys2Proof.Machine Sys2Proof.Safety

/-! ## A fault is precise -/

/-- An instruction leaves `S.fault` as it was, or is a command that wrote nothing else (R200). -/
theorem exec_fault {i : Instr} {s t : State} (h : exec i s = .next t) :
    t.fault = s.fault ∨ i.isEvent = false ∧ ∃ c, t = s.raiseFault c := by
  cases exec_effect h with
  | faulted c he => exact .inr ⟨he, c, rfl⟩
  | command w he hk => exact .inl hk.untouched.fault
  | handler hm hc hq he hk => exact .inl hk.untouched.fault
  | event he hk => exact .inl hk.untouched.fault

/-- A step leaves `S.fault` as it was, or clears it, or raised a fault with its turn consumed (R200, R230). -/
theorem step_fault {s t : State} (h : step s = .next t) :
    t.fault = s.fault ∨ t.fault = 0#8 ∨ ∃ c, t = State.raiseFault { s with turns := s.turns.tail } c := by
  cases step_effect h with
  | idle | delivered => exact .inl rfl
  | faulted c => exact .inr (.inr ⟨c, rfl⟩)
  | command ht hf hd hx =>
    rw [ht, List.tail_cons]
    exact (exec_fault hx).imp_right fun ⟨_, raised⟩ => .inr raised
  | dispatched ht hen hq hd hx =>
    rcases exec_fault hx with hkept | ⟨hcommand, -⟩
    · exact .inl hkept
    · exact absurd (hcommand.symm.trans (decodeEv_isEvent hd)) nofun
  | reset ht => exact .inr (.inl rfl)

/-- Settles O40: of the three ways of `step_fault`, only a raised fault takes `S.fault` away from 0. -/
theorem faultIsPrecise : Obligations.FaultIsPrecise := by
  intro s t hs h hfault
  rcases step_fault h with hkept | hcleared | ⟨c, rfl⟩
  · exact absurd (hkept.trans hs) hfault
  · exact absurd hcleared hfault
  · exact ⟨rfl, faultCode_le c⟩

/-! ## While a fault stands -/

/-- While a fault stands every agent's step but reset is not enabled (R200). -/
theorem takeTurn_of_fault {s : State} {u : Turn} (hf : s.fault ≠ 0#8) (hu : u ≠ .reset) : takeTurn u s = .next s := by
  cases u with
  | host w a => exact if_neg hf
  | radio e | arbiter e => exact if_neg hf
  | dispatcher => exact dispatchStep_of_not_enabled fun hen => hf ((dispatchEnabled_iff s).mp hen).1
  | reset => exact absurd rfl hu

/-- Settles O39, by whose step it is; with no turn left it is a dispatch step. -/
theorem faultedBlockOnlyResets : Obligations.FaultedBlockOnlyResets := by
  refine fun s hf => ⟨fun u rest ht hu => ?_, fun ht => ?_, fun rest ht => ⟨_, step_of_turn ht, rfl⟩⟩
  · rw [step_of_turn ht]
    exact takeTurn_of_fault (s := { s with turns := rest }) hf hu
  · rw [step_of_no_turn ht]
    exact takeTurn_of_fault (u := .dispatcher) hf nofun

/-! ## Delivery -/

/-- A delivery that is enabled and finds no room faults (R210). -/
theorem deliveryStep_overflows {s : State} {e : Word} (hf : s.fault = 0#8) (he : isEventWord e = true)
    (hq : s.queueFull = true) : deliveryStep e s = faults s 0x06#8 := by
  rw [deliveryStep, if_pos hf]
  rcases deliver_cases s e with ⟨hno, -⟩ | ⟨-, -, hd⟩ | ⟨-, hroom, -⟩
  · exact absurd (hno.symm.trans he) nofun
  · rw [hd]
    rfl
  · exact absurd (hroom.symm.trans hq) nofun

/-- The step of either source is a delivery. -/
theorem step_of_delivery {s : State} {e : Word} {rest : List Turn}
    (ht : s.turns = .radio e :: rest ∨ s.turns = .arbiter e :: rest) :
    step s = deliveryStep e { s with turns := rest } :=
  ht.elim step_of_turn step_of_turn

/-- Settles O38: the word is looked at before the room in the queue. -/
theorem deliveryAppendsOrFaults : Obligations.DeliveryAppendsOrFaults := by
  intro s e rest ht hf
  rw [step_of_delivery ht]
  refine ⟨eventDecoderExact.2 e { s with turns := rest } hf, fun hd hfull => ?_, fun hd hroom => ?_⟩
  · exact deliveryStep_overflows (s := { s with turns := rest }) hf ((isEventWord_iff e).mpr hd)
      ((queueFull_iff _).mpr hfull)
  · exact deliveryStep_appends (s := { s with turns := rest }) hf ((isEventWord_iff e).mpr hd)
      (Bool.eq_false_iff.mpr fun hfull => hroom ((queueFull_iff _).mp hfull))

/-! ## The dispatcher empties the queue -/

/-- A self-dispatching block with no turn left, outside the critical section and without a fault: the dispatcher has every step
until the queue is empty (R101, R252; log 2). -/
structure Draining (s : State) : Prop where
  queue_decodes : ∀ e ∈ s.evq, isEventWord e = true
  fault : s.fault = 0#8
  csHeld : s.csHeld = false
  autonomous : s.params.irqDispatch = .autonomous
  turns : s.turns = []

/-- Each of these steps takes one event off the queue, and leaves the block as ready for the next. -/
theorem Draining.step {s : State} {e : Word} {rest : List Word} (h : Draining s) (hq : s.evq = e :: rest) :
    ∃ t, step s = .next t ∧ t.evq = rest ∧ Draining t := by
  obtain ⟨i, hd⟩ := (isEventWord_iff e).mp (h.queue_decodes e (by simp [hq]))
  have he := decodeEv_isEvent hd
  have hen : s.dispatchEnabled = true :=
    (dispatchEnabled_iff s).mpr ⟨h.fault, h.csHeld, by simp [hq], h.autonomous⟩
  obtain ⟨u, hu, -⟩ := exec_event_next he { s with evq := rest }
  have hk := performEvent_keeps hu
  have hun := hk.untouched
  have hevq : (settled u).evq = rest := hun.evq
  obtain ⟨hcs, -⟩ := event_frame he (hk.frame.trans (.settled u))
  refine ⟨settled u, ?_, hevq, ?_, hun.fault.trans h.fault, hcs.trans h.csHeld, ?_, hun.turns.trans h.turns⟩
  · rw [step_of_no_turn h.turns, dispatchStep_of_decodeEv hen hq hd, exec_event hu]
  · rw [hevq]
    exact fun x hx => h.queue_decodes x (hq ▸ List.mem_cons_of_mem e hx)
  · rw [hun.params]
    exact h.autonomous

/-- By induction on the queue. -/
theorem Draining.run {s : State} {q : List Word} (h : Draining s) (hq : s.evq = q) :
    ∃ t, Host.Core.run Sys2Proof.core q.length s = .next t ∧ t.evq = [] ∧ t.fault = 0#8 := by
  induction q generalizing s with
  | nil => exact ⟨s, rfl, hq, h.fault⟩
  | cons e rest ih =>
    obtain ⟨t, hs, ht, hnext⟩ := h.step hq
    obtain ⟨v, hrun, hv⟩ := ih hnext ht
    refine ⟨v, ?_, hv⟩
    have hcore : Sys2Proof.core.step s = .next t := hs
    simp only [List.length_cons, Host.Core.run, hcore]
    exact hrun

/-- Settles O55; the invariant gives `Draining` that every queued word is an event (R108). -/
theorem dispatcherDrainsQueue : Obligations.DispatcherDrainsQueue :=
  fun _ hi hf hc hm ht => Draining.run ⟨hi.queue_decodes, hf, hc, hm, ht⟩ rfl

end Sys2Proof.Proofs
end

section
/-!
PROOFS. How Sleep and Disabling are entered and left (spec/60_exceptions.md R225, spec/70_reset_and_hazards.md R245).
-/

namespace Sys2Proof.Proofs

open Sys2Proof.Machine Sys2Proof.Safety

/-! ## The power states -/

/-- The block is in neither of the power states of R225. -/
def poweredUp : OpState → Bool
  | .sleep | .disabling => false
  | .waitingTimeslot | .waitingRxFrame | .rxHeader | .rxFrame | .txAck | .ccaBeforeTx | .txFrame | .rxAck
  | .energyDetection | .cca | .continuousCarrier => true

theorem poweredUp_iff (st : OpState) : poweredUp st = true ↔ st ≠ .sleep ∧ st ≠ .disabling := by
  cases st <;> simp [poweredUp]

theorem poweredUp_of_active {st : OpState} (h : st.active = true) : poweredUp st = true := by
  cases st with
  | sleep | disabling => cases h
  | _ => rfl

/-- The listening path lands in a state of reception (R104). -/
theorem enterRxListen_poweredUp (s : State) : poweredUp s.enterRxListen.state = true := by
  have hidle := enterRxListen_recvIdle s
  cases hs : s.enterRxListen.state with
  | sleep | disabling => rw [hs] at hidle; cases hidle
  | _ => rfl

/-- R225: how instruction `i` may move the block from `s` to the operating state `st`, as seen from Sleep and Disabling. -/
inductive PowerMove (i : Instr) (s : State) (st : OpState) : Prop where
  | stays (h : st = s.state)
  | runs (hs : poweredUp s.state = true) (hst : poweredUp st = true)
  | wakes (hs : s.state = .sleep) (hst : poweredUp st = true)
      (hi : i = .receive ∨ s.tsGranted = true ∧ (i = .cca ∨ i = .continuousCarrier ∨ ∃ d, i = .energyDetection d))
  | powersDown (hs : poweredUp s.state = true) (hst : st = .disabling) (hi : i = .sleep)
  | fallsAsleep (hs : s.state = .disabling) (hst : st = .sleep) (hi : i = .evDisabled ∨ i = .evTsRevoke ∨ i = .irqHandler)

/-- An event never wakes the block and never starts the power-down, so IRQ_HANDLER, which performs one, does not either. -/
theorem PowerMove.handled {j : Instr} {s : State} {st : OpState} (hj : j.isEvent = true) (h : PowerMove j s st) :
    PowerMove .irqHandler s st := by
  cases h with
  | stays h => exact .stays h
  | runs hs hst => exact .runs hs hst
  | wakes hs hst hi =>
    rcases hi with rfl | ⟨-, rfl | rfl | ⟨d, rfl⟩⟩ <;> cases hj
  | powersDown hs hst hi =>
    subst hi
    cases hj
  | fallsAsleep hs hst hi => exact .fallsAsleep hs hst (.inr (.inr rfl))

/-- What moves the block does not read the registers beside `S.state` and `S.ts_granted`. -/
theorem PowerMove.of_same_power {i : Instr} {r s : State} {st : OpState} (h : PowerMove i r st)
    (hstate : r.state = s.state) (hgranted : r.tsGranted = s.tsGranted) : PowerMove i s st := by
  cases h with
  | stays h => exact .stays (h.trans hstate)
  | runs hs hst => exact .runs (hstate ▸ hs) hst
  | wakes hs hst hi => exact .wakes (hstate ▸ hs) hst (hgranted ▸ hi)
  | powersDown hs hst hi => exact .powersDown (hstate ▸ hs) hst hi
  | fallsAsleep hs hst hi => exact .fallsAsleep (hstate ▸ hs) hst hi

/-! ## Commands -/

theorem sleepRule_powerMove (s : State) : PowerMove .sleep s (sleepRule s).1.state := by
  obtain ⟨rest, n, hdraw⟩ := drawAbortable_frame s
  unfold sleepRule
  cases hs : s.state with
  | waitingTimeslot =>
    dsimp only
    split
    · exact .powersDown (by rw [hs]; rfl) rfl rfl
    · exact .stays rfl
  | waitingRxFrame => exact .powersDown (by rw [hs]; rfl) rfl rfl
  | rxHeader =>
    dsimp only
    split
    · exact .powersDown (by rw [hs]; rfl) rfl rfl
    · exact .stays (by rw [hdraw])
  | _ => exact .stays rfl

theorem receiveRule_powerMove (s : State) : PowerMove .receive s (receiveRule s).1.state := by
  unfold receiveRule
  cases hs : s.state with
  | sleep => exact .wakes hs (enterRxListen_poweredUp s) (.inl rfl)
  | continuousCarrier => exact .runs (by rw [hs]; rfl) (enterRxListen_poweredUp s)
  | waitingTimeslot =>
    dsimp only
    split
    · exact .runs (by rw [hs]; rfl) (enterRxListen_poweredUp s)
    · exact .stays rfl
  | _ => exact .stays rfl

theorem transmitRule_powerMove (frame : Handle) (c : Bool) (s : State) :
    PowerMove (.transmit frame c) s (transmitRule frame c s).1.state := by
  have starts : poweredUp (s.startJob frame c).state = true := by cases c <;> rfl
  unfold transmitRule
  cases hs : s.state with
  | waitingRxFrame | rxHeader | rxFrame => exact .runs (by rw [hs]; rfl) starts
  | _ => exact .stays rfl

/-- A probe or the carrier starts from a state of reception, or from Sleep with the timeslot (R111). -/
theorem probeRule_powerMove {i : Instr} {s start : State}
    (hi : i = .cca ∨ i = .continuousCarrier ∨ ∃ d, i = .energyDetection d) (hstart : poweredUp start.state = true) :
    PowerMove i s (probeRule s start).1.state := by
  cases h : s.probeSourceCheck with
  | fails r =>
    rw [probeRule_fails h]
    exact .stays rfl
  | legal =>
    rw [probeRule_legal h]
    rcases (probeSourceCheck_legal s).mp h with hs | hs | hs | hs | ⟨hs, hgranted⟩ | ⟨hs, -⟩
    case inr.inr.inr.inr.inl => exact .wakes hs hstart (.inr ⟨hgranted, hi⟩)
    all_goals exact .runs (by rw [hs]; rfl) hstart

theorem notifyBufferFreeRule_powerMove (b : Handle) (s : State) :
    PowerMove (.notifyBufferFree b) s (notifyBufferFreeRule b s).1.state := by
  unfold notifyBufferFreeRule
  split
  · next harmed =>
    obtain ⟨-, hs⟩ := (idleArmed_iff s).mp harmed
    exact .runs (by rw [hs]; rfl) (by dsimp only; split <;> rfl)
  · exact .stays rfl

/-- Every command but IRQ_HANDLER, which performs an event. -/
theorem commandRule_powerMove {i : Instr} {s u : State} {w : Word} (hirq : i ≠ .irqHandler)
    (h : commandRule i s = some (u, w)) : PowerMove i s u.state := by
  have rule : ∀ r : State × Word, some r = some (u, w) → r.1 = u := fun r hr => by cases hr; rfl
  cases i with
  | sleep => exact rule _ h ▸ sleepRule_powerMove s
  | receive => exact rule _ h ▸ receiveRule_powerMove s
  | transmit frame c => exact rule _ h ▸ transmitRule_powerMove frame c s
  | energyDetection d => exact rule _ h ▸ probeRule_powerMove (.inr (.inr ⟨d, rfl⟩)) rfl
  | cca => exact rule _ h ▸ probeRule_powerMove (.inl rfl) rfl
  | continuousCarrier => exact rule _ h ▸ probeRule_powerMove (.inr (.inl rfl)) rfl
  | notifyBufferFree b => exact rule _ h ▸ notifyBufferFreeRule_powerMove b s
  | currentState | channelUpdate | ccaCfgUpdate | csEnter | csExit | cfgSetChannel | cfgSetCca =>
    exact rule _ h ▸ .stays rfl
  | irqHandler => exact absurd rfl hirq
  | _ => cases h

/-! ## Events -/

section
variable {i : Instr} {st st' : OpState} {ackReq : Bool} {frame buffer : Handle} {outs : List OutRec}

/-- Disabling alone has an entry that leads to a power state (R169). -/
theorem eventEntry_goes_poweredUp (hst : poweredUp st = true)
    (h : eventEntry st i ackReq frame buffer = .goes st' outs) : poweredUp st' = true := by
  unfold eventEntry at h
  split at h
  next => cases hst
  all_goals cases ackReq <;> cases h <;> rfl

/-- Sleep has no entry, and Disabling only that of EV_DISABLED (R169). -/
theorem eventEntry_goes (h : eventEntry st i ackReq frame buffer = .goes st' outs) :
    poweredUp st = true ∧ poweredUp st' = true ∨ st = .disabling ∧ st' = .sleep ∧ i = .evDisabled := by
  cases st with
  | sleep => cases h
  | disabling =>
    cases i with
    | evDisabled => cases h; exact .inr ⟨rfl, rfl, rfl⟩
    | _ => cases h
  | _ => exact .inl ⟨rfl, eventEntry_goes_poweredUp rfl h⟩

/-- The listening path is taken from no power state (R169). -/
theorem eventEntry_listens (h : eventEntry st i ackReq frame buffer = .listens outs) : poweredUp st = true := by
  cases st with
  | sleep => cases h
  | disabling => cases i <;> cases h
  | _ => rfl

end

/-- A radio event, by its entry of the matrix (R169). -/
theorem radioEvent_powerMove {i : Instr} {s t : State} (h : isRadioEvent i = true) (hx : exec i s = .next t) :
    PowerMove i s t.state := by
  have hentry := radioEvent_matchesEntry h s
  unfold MatchesEntry at hentry
  rw [hx] at hentry
  cases he : eventEntry s.state i s.jobAckReq s.jobFrame s.rxBuffer with
  | dash =>
    rw [he] at hentry
    cases hentry
    exact .stays rfl
  | goes st outs =>
    rw [he] at hentry
    obtain ⟨u, hu, hst, -⟩ := hentry
    cases hu
    rw [hst]
    rcases eventEntry_goes he with ⟨hs, ht⟩ | ⟨hs, ht, hi⟩
    · exact .runs hs ht
    · exact .fallsAsleep hs ht (.inl hi)
  | listens outs =>
    rw [he] at hentry
    obtain ⟨u, hu, -, ht, -⟩ := hentry
    cases hu
    refine .runs (eventEntry_listens he) ?_
    rw [ht]
    split <;> rfl

/-- A grant acts in WaitingTimeslot only (R180). -/
theorem tsGrantRule_powerMove (s : State) : PowerMove .evTsGrant s (tsGrantRule s).state := by
  by_cases hs : s.state = .waitingTimeslot
  · refine .runs (by rw [hs]; rfl) ?_
    rw [tsGrantRule_waiting hs]
    split
    · rfl
    · split
      · exact (congrArg poweredUp hs :)
      · exact enterRxListen_poweredUp _
  · rw [tsGrantRule_not_waiting hs]
    exact .stays rfl

/-- A revoke, by the groups of states of R181. -/
theorem tsRevoke_powerMove {s t : State} (hx : exec .evTsRevoke s = .next t) : PowerMove .evTsRevoke s t.state := by
  obtain ⟨-, hdisabling, hstays, -, -, -, -, -, hactive⟩ := timeslotRevokeEvent
  cases ha : s.state.active with
  | true =>
    rw [hactive s t ha hx]
    exact .runs (poweredUp_of_active ha) rfl
  | false =>
    cases hs : s.state with
    | disabling =>
      cases (hdisabling s hs).symm.trans hx
      exact .fallsAsleep hs rfl (.inr (.inl rfl))
    | sleep =>
      cases (hstays s (.inl hs)).symm.trans hx
      exact .stays rfl
    | waitingTimeslot =>
      cases (hstays s (.inr hs)).symm.trans hx
      exact .stays rfl
    | _ => rw [hs] at ha; cases ha

theorem event_powerMove {i : Instr} {s t : State} (he : i.isEvent = true) (hx : exec i s = .next t) :
    PowerMove i s t.state := by
  by_cases hgrant : i = .evTsGrant
  · subst hgrant
    cases (exec_event rfl).symm.trans hx
    exact tsGrantRule_powerMove s
  · by_cases hrevoke : i = .evTsRevoke
    · subst hrevoke
      exact tsRevoke_powerMove hx
    · exact radioEvent_powerMove (by simp [isRadioEvent, he, hgrant, hrevoke]) hx

/-! ## Every instruction -/

/-- IRQ_HANDLER moves the block as the event it performs does (R144). -/
theorem irqHandler_powerMove {s u : State} {w : Word} (h : commandRule .irqHandler s = some (u, w)) :
    PowerMove .irqHandler s u.state := by
  cases hq : s.evq with
  | nil =>
    cases (commandRule_irqHandler_nil hq).symm.trans h
    exact .stays rfl
  | cons e rest =>
    rw [commandRule_irqHandler_cons hq] at h
    obtain ⟨v, hv, hvu⟩ := Option.map_eq_some_iff.mp h
    cases hvu
    obtain ⟨j, hd, hj⟩ := performHead_some hv
    have he := decodeEv_isEvent hd
    exact ((event_powerMove he (exec_event hj)).handled he).of_same_power rfl rfl

theorem exec_powerMove {i : Instr} {s t : State} (h : exec i s = .next t) : PowerMove i s t.state := by
  rcases exec_next_cases h with ⟨-, c, rfl⟩ | ⟨-, u, w, hr, rfl⟩ | ⟨he, -⟩
  · exact .stays rfl
  · by_cases hirq : i = .irqHandler
    · subst hirq
      exact (irqHandler_powerMove hr :)
    · exact (commandRule_powerMove hirq hr :)
  · exact event_powerMove he h

/-- Settles O57, by the five ways of `PowerMove`. -/
theorem powerStateTransitions : Obligations.PowerStateTransitions := by
  intro i s t h
  cases exec_powerMove h with
  | stays hst =>
    rw [hst]
    exact ⟨absurd, absurd, fun h hs => absurd hs h, fun h hs => absurd hs h⟩
  | runs hs hst =>
    rw [poweredUp_iff] at hs hst
    simp [hs, hst]
  | wakes hs hst hi =>
    rw [poweredUp_iff] at hst
    simp [hs, hst, hi]
  | powersDown hs hst hi =>
    rw [poweredUp_iff] at hs
    simp [hs, hst, hi]
  | fallsAsleep hs hst hi => simp [hs, hst, hi]

end Sys2Proof.Proofs
end

section
/-!
PROOFS. Reset (spec/70_reset_and_hazards.md R230, spec/10_state.md R41), and the receive buffer with its RX_DONE over every rule,
instruction and step (R244, R26).
-/

namespace Sys2Proof.Proofs

open Sys2Proof.Machine Sys2Proof.Safety

/-! ## Reset -/

/-- Settles O42: the reset step is `State.resetStep`, whose registers are the table of R41. -/
theorem resetSetsEveryRegister : Obligations.ResetSetsEveryRegister := by
  intro s rest ht
  exact ⟨State.resetStep { s with turns := rest }, step_of_turn ht, rfl, rfl, rfl, rfl, rfl, rfl, rfl, rfl, rfl, rfl, rfl,
    rfl, rfl, rfl, rfl, rfl, rfl, rfl, rfl, rfl⟩

/-! ## The fate of the receive buffer -/

/-- What may become of the receive buffer and the output log: no RX_DONE is put out and a buffer held stays, or the buffer held is
given up with one RX_DONE, which names it. -/
inductive BufferFate (buffer : Handle) (log : List OutRec) (buffer' : Handle) (log' : List OutRec) : Prop where
  | kept (outs : List OutRec) (hlog : log' = log ++ outs) (hquiet : ∀ b, OutRec.rxDone b ∉ outs)
      (hbuffer : buffer ≠ noHandle → buffer' = buffer)
  | givenUp (hheld : buffer ≠ noHandle) (hlog : log' = log ++ [.rxDone buffer])

/-- `BufferFate` between two states. Like `JobStep` it does not see `settle()`, responses, turns, the queue or a fault. -/
def BufferStep (s t : State) : Prop := BufferFate s.rxBuffer s.outLog t.rxBuffer t.outLog

namespace BufferStep

/-- Nothing is put out and a buffer held stays. -/
theorem quiet {s t : State} (hbuffer : s.rxBuffer ≠ noHandle → t.rxBuffer = s.rxBuffer) (hlog : t.outLog = s.outLog) :
    BufferStep s t :=
  .kept [] (by rw [hlog, List.append_nil]) (fun _ => List.not_mem_nil) hbuffer

/-- Neither the buffer nor the log is written. -/
theorem same {s t : State} (hbuffer : t.rxBuffer = s.rxBuffer) (hlog : t.outLog = s.outLog) : BufferStep s t :=
  .quiet (fun _ => hbuffer) hlog

theorem refl (s : State) : BufferStep s s := .same rfl rfl

/-- A record that is no RX_DONE is put out and the buffer stays. -/
theorem out {s t : State} {r : OutRec} (hr : ∀ b, OutRec.rxDone b ≠ r) (hbuffer : t.rxBuffer = s.rxBuffer)
    (hlog : t.outLog = s.outLog ++ [r]) : BufferStep s t :=
  .kept [r] hlog (fun b hm => hr b (List.mem_singleton.mp hm)) fun _ => hbuffer

end BufferStep

/-- The listening path acquires a buffer only where none is held (R104). -/
theorem enterRxListen_rxBuffer {s : State} (hb : s.rxBuffer ≠ noHandle) : s.enterRxListen.rxBuffer = s.rxBuffer := by
  have hheld : bufferFor s = (s.rxBuffer, s) := if_pos hb
  rw [enterRxListen_eq, armed, hheld]
  rfl

/-- The listening path puts out nothing; after an RX_DONE no buffer is held, and it may acquire one (R104, R244). -/
theorem BufferStep.listen {s t : State} (h : BufferStep s t) : BufferStep s t.enterRxListen := by
  rw [BufferStep, enterRxListen_outLog]
  cases h with
  | kept outs hlog hquiet hbuffer =>
    refine .kept outs hlog hquiet fun hs => ?_
    have ht := hbuffer hs
    rw [enterRxListen_rxBuffer (ht ▸ hs), ht]
  | givenUp hheld hlog => exact .givenUp hheld hlog

/-- The end of a job puts out a TX_DONE (R106). -/
theorem BufferStep.completeJob (s : State) (o : TxOutcome) : BufferStep s (s.completeJob o) :=
  .listen (.out (r := .txDone o s.jobFrame) nofun rfl rfl)

/-! ### Events -/

theorem rxStartRule_buffer (s : State) : BufferStep s (rxStartRule s) := by
  by_cases hs : s.state = .waitingRxFrame
  · rw [rxStartRule_waitingRxFrame hs]
    exact .same rfl rfl
  · rw [rxStartRule_elsewhere hs]
    exact .refl s

theorem rxAddrMatchRule_buffer (addressed : Bool) (s : State) : BufferStep s (rxAddrMatchRule addressed s) := by
  by_cases hs : s.state = .rxHeader
  · rw [rxAddrMatchRule_rxHeader addressed hs]
    exact .same rfl rfl
  · rw [rxAddrMatchRule_elsewhere addressed hs]
    exact .refl s

/-- The one event that puts out an RX_DONE: in RxFrame a buffer is held (R44), and goes up with the frame (R162). -/
theorem rxCompleteRule_buffer {s : State} (ackRequested : Bool) (hi : ModeInv s) :
    BufferStep s (rxCompleteRule ackRequested s) := by
  by_cases hs : s.state = .rxFrame
  · have hheld : s.rxBuffer ≠ noHandle := hi.listening_buffer (.inr (.inr hs))
    rw [rxCompleteRule_rxFrame ackRequested hs]
    split
    · exact .givenUp hheld rfl
    · exact .listen (.givenUp hheld rfl)
  · rw [rxCompleteRule_elsewhere ackRequested hs]
    exact .refl s

theorem txCompleteRule_buffer (s : State) : BufferStep s (txCompleteRule s) := by
  by_cases hs : s.state = .txFrame
  · rw [txCompleteRule_txFrame hs]
    split
    · exact .same rfl rfl
    · exact .completeJob s _
  · by_cases hack : s.state = .txAck
    · rw [txCompleteRule_txAck hack]
      exact .listen (.refl s)
    · rw [txCompleteRule_elsewhere hs hack]
      exact .refl s

theorem ackReceivedRule_buffer (matching : Bool) (s : State) : BufferStep s (ackReceivedRule matching s) := by
  by_cases hs : s.state = .rxAck
  · rw [ackReceivedRule_rxAck matching hs]
    split
    · exact .completeJob s _
    · exact .refl s
  · rw [ackReceivedRule_elsewhere matching hs]
    exact .refl s

theorem ackTimeoutRule_buffer (s : State) : BufferStep s (ackTimeoutRule s) := by
  by_cases hs : s.state = .rxAck
  · rw [ackTimeoutRule_rxAck hs]
    exact .completeJob s _
  · rw [ackTimeoutRule_elsewhere hs]
    exact .refl s

theorem edCompleteRule_buffer (energy : BitVec 8) (s : State) : BufferStep s (edCompleteRule energy s) := by
  by_cases hs : s.state = .energyDetection
  · rw [edCompleteRule_energyDetection energy hs]
    exact .listen (.out (r := .edDone energy) nofun rfl rfl)
  · rw [edCompleteRule_elsewhere energy hs]
    exact .refl s

theorem ccaCompleteRule_buffer (busy : Bool) (s : State) : BufferStep s (ccaCompleteRule busy s) := by
  by_cases hs : s.state = .ccaBeforeTx
  · rw [ccaCompleteRule_ccaBeforeTx busy hs]
    split
    · exact .completeJob s _
    · exact .same rfl rfl
  · by_cases hprobe : s.state = .cca
    · rw [ccaCompleteRule_cca busy hprobe]
      exact .listen (.out (r := .ccaDone busy) nofun rfl rfl)
    · rw [ccaCompleteRule_elsewhere busy hs hprobe]
      exact .refl s

theorem disabledRule_buffer (s : State) : BufferStep s (disabledRule s) := by
  by_cases hs : s.state = .disabling
  · rw [disabledRule_disabling hs]
    exact .same rfl rfl
  · rw [disabledRule_elsewhere hs]
    exact .refl s

theorem tsGrantRule_buffer (s : State) : BufferStep s (tsGrantRule s) := by
  by_cases hs : s.state = .waitingTimeslot
  · rw [tsGrantRule_waiting hs]
    split
    · exact .same rfl rfl
    · split
      · exact .same rfl rfl
      · exact .listen (.same rfl rfl)
  · rw [tsGrantRule_not_waiting hs]
    exact .same rfl rfl

/-- A revoke drops the reception and keeps its buffer (R181, R105); the records it puts out are no RX_DONE. -/
theorem tsRevokeRule_buffer (s : State) : BufferStep s (tsRevokeRule s) := by
  cases hactive : s.state.active with
  | true =>
    rcases (active_iff s.state).mp hactive with h | h | h | h | h
    · rw [tsRevokeRule_receiving h]
      exact .listen (.same rfl rfl)
    · rw [tsRevokeRule_transmitting h]
      exact (BufferStep.completeJob { s with tsGranted := false } _ :)
    · rw [tsRevokeRule_energyDetection h]
      exact .listen (.out (r := .edAborted) nofun rfl rfl)
    · rw [tsRevokeRule_cca h]
      exact .listen (.out (r := .ccaAborted) nofun rfl rfl)
    · rw [tsRevokeRule_continuousCarrier h]
      exact .same rfl rfl
  | false =>
    cases hs : s.state with
    | disabling =>
      rw [tsRevokeRule_disabling hs]
      exact .same rfl rfl
    | sleep =>
      rw [tsRevokeRule_stays (.inl hs)]
      exact .same rfl rfl
    | waitingTimeslot =>
      rw [tsRevokeRule_stays (.inr hs)]
      exact .same rfl rfl
    | _ => rw [hs] at hactive; cases hactive

theorem performEvent_buffer {i : Instr} {s u : State} (hi : ModeInv s) (h : performEvent i s = some u) :
    BufferStep s u := by
  cases i with
  | evRxStart => cases h; exact rxStartRule_buffer s
  | evRxAddrMatch f => cases h; exact rxAddrMatchRule_buffer f s
  | evRxComplete f => cases h; exact rxCompleteRule_buffer f hi
  | evTxComplete => cases h; exact txCompleteRule_buffer s
  | evAckReceived f => cases h; exact ackReceivedRule_buffer f s
  | evAckTimeout => cases h; exact ackTimeoutRule_buffer s
  | evEdComplete v => cases h; exact edCompleteRule_buffer v s
  | evCcaComplete f => cases h; exact ccaCompleteRule_buffer f s
  | evDisabled => cases h; exact disabledRule_buffer s
  | evTsGrant => cases h; exact tsGrantRule_buffer s
  | evTsRevoke => cases h; exact tsRevokeRule_buffer s
  | _ => cases h

/-! ### Commands -/

theorem sleepRule_buffer (s : State) : BufferStep s (sleepRule s).1 := by
  obtain ⟨rest, n, hdraw⟩ := drawAbortable_frame s
  unfold sleepRule
  cases s.state with
  | waitingTimeslot =>
    dsimp only
    split
    · exact .same rfl rfl
    · exact .refl s
  | waitingRxFrame => exact .same rfl rfl
  | rxHeader =>
    dsimp only
    rw [hdraw]
    split <;> exact .same rfl rfl
  | _ => exact .refl s

theorem receiveRule_buffer (s : State) : BufferStep s (receiveRule s).1 := by
  unfold receiveRule
  cases s.state with
  | sleep | continuousCarrier => exact .listen (.refl s)
  | waitingTimeslot =>
    dsimp only
    split
    · exact .listen (.refl s)
    · exact .refl s
  | _ => exact .refl s

/-- A transmit job leaves the receive buffer held (R122). -/
theorem transmitRule_buffer (frame : Handle) (c : Bool) (s : State) : BufferStep s (transmitRule frame c s).1 := by
  obtain ⟨rest, n, hdraw⟩ := drawAckRequested_frame s frame
  have starts : BufferStep s (s.startJob frame c) := by
    rw [State.startJob, hdraw]
    exact .same rfl rfl
  unfold transmitRule
  cases s.state with
  | waitingRxFrame | rxHeader | rxFrame => exact starts
  | _ => exact .refl s

theorem probeRule_buffer {s start : State} (hstart : BufferStep s start) (target : OpState) :
    BufferStep s (probeRule s (start.startProbe target)).1 := by
  cases h : s.probeSourceCheck with
  | legal =>
    rw [probeRule_legal h, startProbe_eq]
    exact hstart
  | fails r =>
    rw [probeRule_fails h]
    exact .refl s

/-- NOTIFY_BUFFER_FREE overwrites no buffer: an idle-armed block holds none (R45). -/
theorem notifyBufferFreeRule_buffer {s : State} (b : Handle) (hi : ModeInv s) :
    BufferStep s (notifyBufferFreeRule b s).1 := by
  unfold notifyBufferFreeRule
  split
  next harmed =>
    obtain ⟨hpending, -⟩ := (idleArmed_iff s).mp harmed
    obtain ⟨-, hnone⟩ := hi.pending_waits hpending
    exact .quiet (fun hheld => absurd hnone hheld) rfl
  next => exact .refl s

/-- IRQ_HANDLER performs the event at the head, if one waits (R144). -/
theorem irqHandlerRule_buffer {s u : State} {w : Word} (hi : ModeInv s) (h : commandRule .irqHandler s = some (u, w)) :
    BufferStep s u := by
  cases hq : s.evq with
  | nil =>
    cases (commandRule_irqHandler_nil hq).symm.trans h
    exact .refl s
  | cons e rest =>
    rw [commandRule_irqHandler_cons hq] at h
    obtain ⟨v, hv, hvu⟩ := Option.map_eq_some_iff.mp h
    cases hvu
    obtain ⟨j, -, hj⟩ := performHead_some hv
    have hdropped : ModeInv s.dropHead := { hi with }
    exact (performEvent_buffer hdropped hj :)

theorem commandRule_buffer {i : Instr} {s u : State} {w : Word} (hi : ModeInv s) (h : commandRule i s = some (u, w)) :
    BufferStep s u := by
  have rule : ∀ r : State × Word, some r = some (u, w) → r.1 = u := fun r hr => by cases hr; rfl
  cases i with
  | sleep => exact rule _ h ▸ sleepRule_buffer s
  | receive => exact rule _ h ▸ receiveRule_buffer s
  | transmit frame c => exact rule _ h ▸ transmitRule_buffer frame c s
  | energyDetection d => exact rule _ h ▸ probeRule_buffer (s := s) (start := { s with edTime := d }) (.same rfl rfl) _
  | cca | continuousCarrier => exact rule _ h ▸ probeRule_buffer (.refl s) _
  | notifyBufferFree b => exact rule _ h ▸ notifyBufferFreeRule_buffer b hi
  | currentState | channelUpdate | ccaCfgUpdate | csEnter | csExit | cfgSetChannel | cfgSetCca =>
    exact rule _ h ▸ .same rfl rfl
  | irqHandler => exact irqHandlerRule_buffer hi h
  | _ => cases h

/-! ### Instructions and steps -/

theorem exec_buffer {i : Instr} {s t : State} (hi : ModeInv s) (h : exec i s = .next t) : BufferStep s t := by
  rcases exec_next_cases h with ⟨-, c, rfl⟩ | ⟨-, u, w, hr, rfl⟩ | ⟨-, u, hp, rfl⟩
  · exact .same rfl rfl
  · exact (commandRule_buffer hi hr :)
  · exact (performEvent_buffer hi hp :)

theorem step_buffer {s t : State} (hi : ModeInv s) (h : step s = .next t) (hreset : ∀ rest, s.turns ≠ .reset :: rest) :
    BufferStep s t := by
  have own : ∀ turns evq, ModeInv { s with turns := turns, evq := evq } := fun _ _ => { hi with }
  cases step_effect h with
  | idle | faulted | delivered => exact .same rfl rfl
  | command ht hf hd hx => exact (exec_buffer (own _ s.evq) hx :)
  | dispatched ht hen hq hd hx => exact (exec_buffer (own _ _) hx :)
  | reset ht => exact absurd ht (hreset _)

/-- Settles O48, by the fate of the buffer over a step (`step_buffer`). -/
theorem receiveBufferGivenUpInRxDone : Obligations.ReceiveBufferGivenUpInRxDone := by
  intro s t hinv h hreset
  cases step_buffer (modeInv_of_blockInv hinv) h hreset with
  | kept outs hlog hquiet hbuffer =>
    exact ⟨outs, hlog, fun b hb => absurd hb (hquiet b), fun hheld hchanged => absurd (hbuffer hheld) hchanged⟩
  | givenUp hheld hlog =>
    refine ⟨[.rxDone s.rxBuffer], hlog, fun b hb => ?_, fun _ _ => List.mem_singleton_self _⟩
    cases List.mem_singleton.mp hb
    exact ⟨rfl, hheld⟩

end Sys2Proof.Proofs
end

section
/-!
PROOFS. The events the radio owes (spec/70_reset_and_hazards.md R253), by their entries in the event matrix (R169).
-/

namespace Sys2Proof.Proofs

open Sys2Proof.Machine Sys2Proof.Safety

/-- The entry of the event matrix leads out of the state `st`. The listening path ends in RecvIdle (R104). -/
def LeadsOutOf (st : OpState) : EventEntry → Prop
  | .dash => False
  | .goes st' _ => st' ≠ st
  | .listens _ => st.recvIdle = false

/-- Each owed event is a radio event, and its entry in the state that waits for it leads out of that state (R253, R169). -/
theorem owed_leadsOut {st : OpState} {i : Instr} (h : i ∈ owed st) (ackReq : Bool) (frame buffer : Handle) :
    isRadioEvent i = true ∧ LeadsOutOf st (eventEntry st i ackReq frame buffer) := by
  cases st with
  | disabling =>
    cases List.mem_singleton.mp h
    exact ⟨rfl, nofun⟩
  | ccaBeforeTx =>
    rcases List.mem_pair.mp h with rfl | rfl
    · exact ⟨rfl, rfl⟩
    · exact ⟨rfl, nofun⟩
  | cca => rcases List.mem_pair.mp h with rfl | rfl <;> exact ⟨rfl, rfl⟩
  | txFrame =>
    cases List.mem_singleton.mp h
    cases ackReq with
    | true => exact ⟨rfl, nofun⟩
    | false => exact ⟨rfl, rfl⟩
  | txAck =>
    cases List.mem_singleton.mp h
    exact ⟨rfl, rfl⟩
  | rxAck => rcases List.mem_pair.mp h with rfl | rfl <;> exact ⟨rfl, rfl⟩
  | energyDetection =>
    obtain ⟨v, rfl⟩ := List.mem_ofFn.mp h
    exact ⟨rfl, rfl⟩
  | _ => cases h

/-- A step that does what an entry says leaves the state if the entry leads out of it. -/
theorem EntryHolds.leaves {s : State} {x : StepOut} {entry : EventEntry} (h : EntryHolds s x entry)
    (hout : LeadsOutOf s.state entry) : ∃ t, x = .next t ∧ t.state ≠ s.state := by
  cases entry with
  | dash => cases hout
  | goes st outs =>
    obtain ⟨t, hx, hst, -⟩ := h
    exact ⟨t, hx, hst ▸ hout⟩
  | listens outs =>
    obtain ⟨t, hx, -, hst, -⟩ := h
    have hidle : t.state.recvIdle = true := by
      rw [hst]
      split <;> rfl
    refine ⟨t, hx, fun hsame => ?_⟩
    rw [hsame, show s.state.recvIdle = false from hout] at hidle
    cases hidle

/-- Settles O60, by the entries of the event matrix (`radioEvent_matchesEntry`), which all lead out of the waiting state. -/
theorem owedEventMovesBlockOn : Obligations.OwedEventMovesBlockOn := by
  intro s i h
  obtain ⟨hradio, hout⟩ := owed_leadsOut h s.jobAckReq s.jobFrame s.rxBuffer
  exact (radioEvent_matchesEntry hradio s).leaves hout

end Sys2Proof.Proofs
end
